-- ==== Sys2Proof/Word.lean ====
section
/-! DEFINITION. The plain words of the part: bytes, sequence numbers, counters, the sets that R183 lays out as
bits, and the numbers of slots, streams, windows and ports (00 section 1). -/

namespace Sys2Proof

/-- One byte of a link frame or of frame memory. -/
abbrev Byte := BitVec 8

/-- A frame's sequence number, 0 for none (R7). -/
abbrev Seq := BitVec 32

/-- A counter, 32 bits wide (R1). -/
abbrev Counter := BitVec 32

/-- A set of windows, bit n for window n (R183). -/
abbrev WinSet := BitVec 16

/-- A damage set: bit 0 OVERRUN, 1 SHORT_FRAME, 2 LONG_FRAME, 3 LINE_LENGTH (R183). -/
abbrev DamageSet := BitVec 4

/-- A cause set of an attention entry, bit 0 for the first cause of the entry's kind (R183). -/
abbrev CauseSet := BitVec 8

/-- A burst: 64 bytes, the unit of the DRAM channel (R138). -/
abbrev Burst := Vector Byte 64

abbrev SlotId := Fin 64
abbrev StreamId := Fin 8
abbrev WindowId := Fin 16
/-- The number of an ingest port, a scan-out port or a lock unit. -/
abbrev PortId := Fin 4
/-- A window's stacking position on its port, 0 (bottom) to 3 (top). -/
abbrev Layer := Fin 4
/-- The number of an attention entry (R162). -/
abbrev EntryId := Fin 29

end Sys2Proof
end

