-- ==== Sys2Proof/Syntax.lean ====
section
/-! DEFINITION. The commands of the part: one constructor per row of spec/opcode_table.json.

A row that is one of the 34 host commands carries the tag byte of its frame and the arguments of R184 as the bytes
and words the frame carries, unchecked: the refusal tables check them. A video or channel event carries its port. -/

namespace Sys2Proof

/-- One command the block can be given. -/
inductive Instr where
  -- resets and calibration
  | powerOnReset
  | powerOnResetRelease
  | calibrationPass
  | calibrationFail
  -- link transactions; the bytes are those after the type byte (R171)
  | commandWrite (bytes : List Byte)
  | responseRead (count : Nat)
  | statusRead (count : Nat)
  | abort (bytes : List Byte)
  | unknownType (typeByte : Byte) (count : Nat)
  | badCommand (tag code : Byte) (payload : List Byte)
  -- slot commands (Chapter 1)
  | slotBase (tag slot : Byte) (base : BitVec 16)
  | slotQuery (tag slot : Byte)
  | pin (tag selector arg : Byte) (seq : BitVec 32)
  | unpin (tag slot : Byte)
  -- stream commands (Chapter 2)
  | streamOpen (tag stream source bpp : Byte) (width height pitch : BitVec 16) (delivery mask : Byte)
      (pool : List Byte)
  | streamStart (tag stream : Byte)
  | streamStopAfterFrame (tag stream : Byte)
  | streamStopNow (tag stream : Byte)
  | streamClose (tag stream : Byte)
  | poolGrow (tag stream slot : Byte)
  | poolShrink (tag stream slot : Byte)
  | streamQuery (tag stream option : Byte)
  -- window commands (Chapter 3)
  | windowSet (tag window stream : Byte) (x0 y0 w h dx dy : BitVec 16) (hrep vrep guard : Byte)
  | cadenceSet (tag window : Byte) (counts : List Byte)
  | windowClear (tag window : Byte)
  | windowQuery (tag window option : Byte)
  -- ingest commands (Chapter 5)
  | ingestSet (tag port lossTimeout normalMark urgentMark : Byte)
  | ingestQuery (tag port option : Byte)
  -- scan-out port commands (Chapter 6)
  | portSet (tag port bpp : Byte) (activeWidth activeLines : BitVec 16) (topBlank : Byte)
      (totalLines lineLength : BitVec 16) (border underrun : BitVec 32) (urgentLead : Byte)
  | portOn (tag port : Byte)
  | portOff (tag port : Byte)
  | portQuery (tag port option : Byte)
  -- lock commands (Chapter 7)
  | lockSet (tag port stream n w d : Byte)
  | lockClear (tag port : Byte)
  -- memory channel (Chapter 8)
  | memoryQuery (tag option : Byte)
  -- host frames (Chapter 9)
  | frameBegin (tag stream : Byte)
  | spanWrite (tag stream : Byte) (line offset length : BitVec 16) (data : List Byte)
  | framePublish (tag stream : Byte)
  | frameAbandon (tag stream : Byte)
  | spanRead (tag slot : Byte) (line offset length : BitVec 16)
  -- attention (Chapter 10)
  | attnRead (tag : Byte)
  | attnClear (tag entry causes : Byte)
  | attnMask (tag entry causes : Byte)
  -- link commands (Chapter 11)
  | nop (tag : Byte) (payload : List Byte)
  | reset (tag : Byte)
  -- the ends of the long commands
  | resetPoint
  | spanWriteEnd
  | spanReadEnd
  -- video events
  | inputFrameStart (port : PortId)
  | inputFrameEnd (port : PortId)
  | inputLineStart (port : PortId)
  | inputLineEnd (port : PortId)
  | pixel (port : PortId) (data : BitVec 32)
  | lossTimeout (port : PortId)
  -- channel events
  | grant
  | transferComplete
  | lineStart (port : PortId)
  deriving DecidableEq, Repr

end Sys2Proof
end

