-- ==== Sys2Proof/Decode.lean ====
section
/-! DEFINITION. The commands that words and bytes spell. The rows of the opcode table have no bits, so no word spells a
command. What the host shifts in during a transaction spells a row of the link (R171); a command frame is taken apart
by R172 and R184 in Machine/Operands.lean. -/

namespace Sys2Proof

/-- No row of the table gives a word, so no word spells a command. -/
def decodeTableWord (_nbits _w : Nat) : Option Instr := none

/-! ## Transactions of the host link (R171) -/

/-- R171: the four types of transaction. -/
inductive TransactionType where
  | commandWrite | responseRead | statusRead | abort
  deriving DecidableEq, Repr

/-- R171: the type the first byte of a transaction selects; none for any other byte. -/
def transactionType (first : Byte) : Option TransactionType :=
  if first = 0x10 then some .commandWrite
  else if first = 0x20 then some .responseRead
  else if first = 0x30 then some .statusRead
  else if first = 0x40 then some .abort
  else none

/-- R171: the row that a transaction is, from the whole bytes the host shifts in; none for a transaction with no whole
byte, which is ignored. The bytes shifted in after the type byte of a read are ignored but for their number. -/
def transaction : List Byte → Option Instr
  | [] => none
  | first :: bytes =>
    match transactionType first with
    | some .commandWrite => some (.commandWrite bytes)
    | some .responseRead => some (.responseRead bytes.length)
    | some .statusRead => some (.statusRead bytes.length)
    | some .abort => some (.abort bytes)
    | none => some (.unknownType first bytes.length)

end Sys2Proof
end

