-- ==== Sys2Proof/Config.lean ====
section
/-! DEFINITION. What the part fixes (00 section 1), the one choice of what unwritten frame memory reads as, and the
FREE VALUES: constants with no body, which stand where the spec leaves a value open, so that no proof can see them. -/

namespace Sys2Proof.Config

/-- R172: the largest payload of a command frame. -/
def maxPayload : Nat := 4104

/-- R170: entries of the command queue, and frames of the response queue. -/
def queueDepth : Nat := 8

/-- R98: bursts the write FIFO of an ingest port holds. -/
def fifoDepth : Nat := 32

/-- R139: transfers in flight on the DRAM channel. -/
def maxInFlight : Nat := 4

/-- R138: bytes of frame memory. -/
def memoryBytes : Nat := 268435456

/-- What a byte of frame memory reads as that nothing has written since power-up.
DESIGN CHOICE (log 6, unsafe): the spec gives DRAM no contents after power-up (R138). -/
def unlistedByte : Byte := 0#8

/-- FREE VALUE (log 8): whether a byte of a write that was in flight when power-on reset was asserted has reached
frame memory. R150 abandons the transfer "without completion" and does not say. -/
opaque abandonedByteLands : Nat → Bool

/-- FREE VALUE (log 12): whether OUTn_LSYNC pulses at the line starts for which the table of R109 names no pulse
(the active lines and the first bottom blank line). -/
opaque lsyncWhereUnstated : Bool

end Sys2Proof.Config
end

