-- ==== Sys2Proof/Machine/State.lean ====
section
/-! DEFINITION. Everything the spec gives the part, as plain data, and its values after power-on reset.

The records of the seven blocks that work on pictures stand together in `Video`; the DRAM channel, the host transfer
unit, the host link and frame memory stand beside it. A field the spec calls derived is computed, not stored (log 19).
-/

namespace Sys2Proof.Machine

/-! ## Slot table (Chapter 1) -/

/-- R4: the states of a slot, in the order R183 numbers them. -/
inductive SlotState where
  | spare | empty | filling | completing | ready | detached
  deriving DecidableEq, Repr

/-- R3: the slot record. -/
structure Slot where
  base : BitVec 16
  owner : Option StreamId
  state : SlotState
  leaving : Bool
  seq : Seq
  committed : Nat
  damage : DamageSet
  readers : WinSet
  owed : WinSet
  pinned : Bool
  seen : Bool
  deriving DecidableEq, Repr

/-- R28. -/
def Slot.reset : Slot where
  base := 0
  owner := none
  state := .spare
  leaving := false
  seq := 0
  committed := 0
  damage := 0
  readers := 0
  owed := 0
  pinned := false
  seen := false

/-! ## Stream table (Chapter 2) -/

/-- R30, in the order of R183. -/
inductive StreamState where
  | closed | opened | running | stopping | draining
  deriving DecidableEq, Repr

/-- R32: the producer of a stream. -/
inductive Source where
  | input (port : PortId)
  | host
  deriving DecidableEq, Repr

/-- R33. -/
inductive Delivery where
  | newest | ordered
  deriving DecidableEq, Repr

/-- R29: the stream record. The line bursts value is derived from width and bpp (R32). -/
structure Stream where
  state : StreamState
  source : Option Source
  bpp : Nat
  width : Nat
  height : Nat
  pitch : Nat
  delivery : Delivery
  discardMask : DamageSet
  pool : List SlotId
  nextSeq : Seq
  newest : Seq
  fillTarget : Option SlotId
  published : Counter
  discarded : Counter
  overflowed : Counter
  unseen : Counter
  abandoned : Counter
  lost : Counter
  deriving DecidableEq, Repr

/-- R49. -/
def Stream.reset : Stream where
  state := .closed
  source := none
  bpp := 2
  width := 16
  height := 16
  pitch := 1
  delivery := .newest
  discardMask := 0
  pool := []
  nextSeq := 1
  newest := 0
  fillTarget := none
  published := 0
  discarded := 0
  overflowed := 0
  unseen := 0
  abandoned := 0
  lost := 0

/-! ## Window table (Chapters 3 and 4) -/

/-- R52, in the order of R183. -/
inductive WindowState where
  | clear | idle | showing | chasing | mismatch
  deriving DecidableEq, Repr

/-- R50: the window record. -/
structure Window where
  state : WindowState
  stream : Option StreamId
  x0 : Nat
  y0 : Nat
  w : Nat
  h : Nat
  dx : Nat
  dy : Nat
  hrep : Nat
  vrep : Nat
  guard : Nat
  cadence : List Nat
  cursor : Nat
  holdTarget : Nat
  shown : Nat
  current : Option SlotId
  fallback : Option SlotId
  readySeq : Seq
  latches : Counter
  repeats : Counter
  underrunLines : Counter
  chaseFaults : Counter
  deriving DecidableEq, Repr

/-- R74. -/
def Window.reset : Window where
  state := .clear
  stream := none
  x0 := 0
  y0 := 0
  w := 16
  h := 16
  dx := 0
  dy := 0
  hrep := 1
  vrep := 1
  guard := 0
  cadence := [1]
  cursor := 0
  holdTarget := 0
  shown := 0
  current := none
  fallback := none
  readySeq := 0
  latches := 0
  repeats := 0
  underrunLines := 0
  chaseFaults := 0

/-! ## Ingest ports (Chapter 5) -/

/-- R89, in the order of R183. -/
inductive IngestState where
  | unbound | bound | armed | capturing | skipping | lost
  deriving DecidableEq, Repr

/-- R88: the tag of a burst an ingest port writes. -/
structure BurstTag where
  slot : SlotId
  seq : Seq
  line : Nat
  burst : Nat
  deriving DecidableEq, Repr

/-- R88: an entry of the write FIFO. -/
structure BurstEntry where
  tag : BurstTag
  data : Burst
  deriving DecidableEq, Repr

/-- R88, R100: what a frame entry keeps of a line that is not yet committed. -/
structure LineRec where
  line : Nat
  ended : Bool
  outstanding : Nat
  deriving DecidableEq, Repr

/-- R88, R100: an entry of the frame list. -/
structure FrameEntry where
  slot : SlotId
  seq : Seq
  ended : Bool
  commitPoint : Nat
  lines : List LineRec
  deriving DecidableEq, Repr

/-- R88: the ingest port record. -/
structure Ingest where
  state : IngestState
  stream : Option StreamId
  stopPending : Bool
  target : Option (SlotId × Seq)
  lineOpen : Bool
  lineIndex : Nat
  linesReceived : Nat
  pixelCount : Nat
  burstsFormed : Nat
  packer : List Byte
  frames : List FrameEntry
  fifo : List BurstEntry
  inFlight : Nat
  orphans : Nat
  tailFlush : Bool
  run : Bool
  /-- The elapsed time in ms while the loss timer runs, none while it is stopped. -/
  lossTimer : Option Nat
  lossTimeout : Nat
  normalMark : Nat
  urgentMark : Nat
  framesSeen : Counter
  burstsDropped : Counter
  deriving DecidableEq, Repr

/-- R106. -/
def Ingest.reset : Ingest where
  state := .unbound
  stream := none
  stopPending := false
  target := none
  lineOpen := false
  lineIndex := 0
  linesReceived := 0
  pixelCount := 0
  burstsFormed := 0
  packer := []
  frames := []
  fifo := []
  inFlight := 0
  orphans := 0
  tailFlush := false
  run := false
  lossTimer := none
  lossTimeout := 100
  normalMark := 8
  urgentMark := 24
  framesSeen := 0
  burstsDropped := 0

/-! ## Scan-out ports (Chapter 6) -/

/-- R112: the mark a store holds for a window the fetcher has decided. -/
inductive Mark where
  | fetch | border
  deriving DecidableEq, Repr

/-- R112: what a line store holds for one window. `kept` is the model's own: a forced switch without a fallback found
the line granted in full (R83, log 11). -/
structure StorePart where
  mark : Option Mark
  bursts : List (Nat × Burst)
  kept : Bool
  deriving DecidableEq, Repr

def StorePart.blank : StorePart where
  mark := none
  bursts := []
  kept := false

/-- R112: a line store, free while `line` is none. -/
structure LineStore where
  line : Option Nat
  parts : Vector StorePart 4
  deriving DecidableEq, Repr

def LineStore.free : LineStore where
  line := none
  parts := Vector.replicate 4 StorePart.blank

/-- R114: a burst read the fetcher has decided on; `slot` is the slot it was decided for (R115). -/
structure PendingRead where
  layer : Layer
  line : Nat
  srcLine : Nat
  burst : Nat
  slot : SlotId
  deriving DecidableEq, Repr

/-- R79: a chase wait. -/
structure Wait where
  layer : Layer
  slot : SlotId
  srcLine : Nat
  line : Nat
  deriving DecidableEq, Repr

/-- What the output pins carry in the line in progress (00 section 3, R109, R118): the active pixels driven on
OUTn_D while OUTn_DE is high (none in a blank line), and the pulses made at the latest line start. -/
structure OutPins where
  pixels : List (BitVec 32)
  fsync : Bool
  lsync : Bool
  deriving DecidableEq, Repr

/-- R108: the outputs of an OFF port. -/
def OutPins.idle : OutPins where
  pixels := []
  fsync := false
  lsync := false

/-- R107: the scan-out port record. `fetchLine` is none when the fetch line is done. `fetchLayer` is the next window
to be decided on the fetch line, 4 when all four are decided (R113, log 20). -/
structure Port where
  on : Bool
  timingValid : Bool
  bpp : Nat
  activeWidth : Nat
  activeLines : Nat
  topBlank : Nat
  totalLines : Nat
  lineLength : Nat
  borderColour : BitVec 32
  underrunColour : BitVec 32
  urgentLead : Nat
  lineCounter : Nat
  frameTotal : Nat
  nextTotal : Nat
  frameNumber : BitVec 32
  emissionLine : Nat
  fetchLine : Option Nat
  fetchLayer : Nat
  wait : Option Wait
  pendingReads : List PendingRead
  inFlight : Nat
  stores : Vector LineStore 4
  frames : Counter
  cutFrames : Counter
  pins : OutPins
  deriving DecidableEq, Repr

/-- R125. -/
def Port.reset : Port where
  on := false
  timingValid := false
  bpp := 2
  activeWidth := 16
  activeLines := 16
  topBlank := 2
  totalLines := 19
  lineLength := 32
  borderColour := 0
  underrunColour := 0
  urgentLead := 1
  lineCounter := 0
  frameTotal := 19
  nextTotal := 19
  frameNumber := 0
  emissionLine := 0
  fetchLine := some 0
  fetchLayer := 0
  wait := none
  pendingReads := []
  inFlight := 0
  stores := Vector.replicate 4 LineStore.free
  frames := 0
  cutFrames := 0
  pins := OutPins.idle

/-! ## Lock units (Chapter 7) -/

/-- R127, in the order of R183. -/
inductive LockState where
  | unlocked | acquiring | locked | holdover
  deriving DecidableEq, Repr

/-- R126: the lock record. The capture limit is always 16 × delta. -/
structure LockUnit where
  configured : Bool
  refStream : StreamId
  interval : Nat
  window : Nat
  delta : Nat
  state : LockState
  countdown : Nat
  firstFrameSeen : Bool
  lastError : Int
  samples : Nat
  deriving DecidableEq, Repr

/-- R137. -/
def LockUnit.reset : LockUnit where
  configured := false
  refStream := 0
  interval := 1
  window := 0
  delta := 1
  state := .unlocked
  countdown := 1
  firstFrameSeen := false
  lastError := 0
  samples := 0

/-! ## Attention table (Chapter 10) -/

/-- R162: an attention entry. -/
structure AttnEntry where
  pending : CauseSet
  enabled : CauseSet
  deriving DecidableEq, Repr

/-- R162, R164: the 29 entries and the ATTN line; ATTN_N is driven low while `line` is true. -/
structure Attention where
  entries : Vector AttnEntry 29
  line : Bool
  deriving DecidableEq, Repr

/-- R169. -/
def Attention.reset : Attention where
  entries := Vector.replicate 29 { pending := 0, enabled := 0 }
  line := false

/-! ## The blocks that work on pictures, together -/

/-- The slot, stream and window tables, the ingest and scan-out ports, the lock units and the attention table. -/
structure Video where
  slots : Vector Slot 64
  streams : Vector Stream 8
  windows : Vector Window 16
  ingest : Vector Ingest 4
  ports : Vector Port 4
  locks : Vector LockUnit 4
  attn : Attention
  deriving DecidableEq, Repr

def Video.reset : Video where
  slots := Vector.replicate 64 Slot.reset
  streams := Vector.replicate 8 Stream.reset
  windows := Vector.replicate 16 Window.reset
  ingest := Vector.replicate 4 Ingest.reset
  ports := Vector.replicate 4 Port.reset
  locks := Vector.replicate 4 LockUnit.reset
  attn := Attention.reset

/-! ## Memory channel and arbiter (Chapter 8) -/

/-- R140. -/
inductive CalState where
  | calibrating | ready | failed
  deriving DecidableEq, Repr

/-- R143: a request class. -/
inductive ReqClass where
  | urgent | normal | background
  deriving DecidableEq, Repr

/-- R115: the tag of a scan-out read. -/
structure ReadTag where
  frame : BitVec 32
  line : Nat
  store : Fin 4
  layer : Layer
  burst : Nat
  deriving DecidableEq, Repr

/-- R138, R139: a transfer in flight, with its requester, kind, address, tag and, for a write, its data. -/
inductive Transfer where
  | ingestWrite (port : PortId) (addr : Nat) (tag : BurstTag) (data : Burst)
  | portRead (port : PortId) (addr : Nat) (tag : ReadTag)
  | hostWrite (addr : Nat) (burst : Nat) (data : Burst)
  | hostRead (addr : Nat) (burst : Nat)
  deriving DecidableEq, Repr

/-- R139: the channel record. The requests standing are computed from the state they follow (R143). The pointers
number IN0 to IN3 as 0 to 3 and OUT0 to OUT3 as 4 to 7 (R183). -/
structure Channel where
  cal : CalState
  attempts : Nat
  urgentPtr : Fin 8
  normalPtr : Fin 8
  inFlight : List Transfer
  draining : Bool
  urgentGrants : Counter
  normalGrants : Counter
  backgroundGrants : Counter
  deriving DecidableEq, Repr

/-- R150, the power-on column. -/
def Channel.reset : Channel where
  cal := .calibrating
  attempts := 0
  urgentPtr := 0
  normalPtr := 0
  inFlight := []
  draining := false
  urgentGrants := 0
  normalGrants := 0
  backgroundGrants := 0

/-! ## Host transfer unit (Chapter 9) -/

/-- R151. -/
inductive HostState where
  | idle | writing | reading
  deriving DecidableEq, Repr

/-- R151: the host transfer unit's record; burst k of the buffer is its bytes 64k to 64k + 63. -/
structure HostUnit where
  state : HostState
  slot : Option SlotId
  startAddr : Nat
  spanBursts : Nat
  issued : Nat
  completed : Nat
  abort : Bool
  buffer : Vector Burst 64
  deriving DecidableEq, Repr

/-- R161. -/
def HostUnit.reset : HostUnit where
  state := .idle
  slot := none
  startAddr := 0
  spanBursts := 1
  issued := 0
  completed := 0
  abort := false
  buffer := Vector.replicate 64 (Vector.replicate 64 0)

/-! ## Host link (Chapter 11) -/

/-- R185. -/
inductive Status where
  | ok | purged | aborted | badCommand | badLength | badArg | badState | noSlot | overlap | limit | notFound | notReady
  deriving DecidableEq, Repr

/-- R170, R172, in the order of R176. -/
inductive LinkFault where
  | none | truncated | overlength | checksum | queueFull | unknownType
  deriving DecidableEq, Repr

/-- R170: a command entry. -/
structure CmdEntry where
  tag : Byte
  code : Byte
  payload : List Byte
  purged : Bool
  deriving DecidableEq, Repr

/-- R170: a response frame. -/
structure Response where
  tag : Byte
  code : Byte
  status : Status
  payload : List Byte
  deriving DecidableEq, Repr

/-- R170: the link record, and what LNK_SDO shifted out in the most recent transaction (R171). -/
structure Link where
  commands : List CmdEntry
  responses : List Response
  executing : Option CmdEntry
  faultKind : LinkFault
  faultTag : Byte
  sdo : List Byte
  deriving DecidableEq, Repr

/-- R182. The bytes on LNK_SDO are none before the first transaction (DESIGN CHOICE, log 26). -/
def Link.reset : Link where
  commands := []
  responses := []
  executing := none
  faultKind := .none
  faultTag := 0
  sdo := []

/-! ## The whole part -/

/-- The part, its frame memory, the model's counter of free values and the queue of waiting commands (log 1). -/
structure State where
  video : Video
  channel : Channel
  host : HostUnit
  link : Link
  mem : List Host.Cell
  freeCount : Nat
  pending : List Instr
  deriving DecidableEq, Repr

/-- The part right after power-on reset (R28, R49, R74, R106, R125, R137, R150, R161, R169, R182), with nothing listed
in frame memory (log 6) and no command waiting. -/
def State.reset : State where
  video := Video.reset
  channel := Channel.reset
  host := HostUnit.reset
  link := Link.reset
  mem := []
  freeCount := 0
  pending := []

/-- Why a step stops with a fault. -/
inductive Fault where
  /-- Raised when a transfer completes whose burst does not lie inside the 256 MiB frame memory (R138). Safe: R5 and R6
  keep every transfer of a run inside, so only states no run reaches stop here (log 23). -/
  | outsideFrameMemory (addr : Nat)
  deriving DecidableEq, Repr

/-- Why a command has no meaning. -/
inductive Refusal where
  /-- Raised by an arm of `exec` whose command has no meaning yet. Safe. -/
  | notModelled (mnemonic : String)
  /-- Raised by UNKNOWN_TYPE with a known type byte and by BAD_COMMAND with one of the 34 codes: the term names no
  command of its row (R171, R173, log 31). Safe: the model stops. -/
  | illFormed (mnemonic : String)
  deriving DecidableEq, Repr

end Sys2Proof.Machine
end

