-- ==== Sys2Proof/Machine/Ops.lean ====
section
/-! DEFINITION. The named operations over the records: reading and changing one record of a table, counters, sequence
numbers, sets of windows, numbering of windows, geometry of slots, and frame memory. -/

namespace Sys2Proof.Machine

/-! ## One record of a table -/

def Video.slot (v : Video) (i : SlotId) : Slot := v.slots[i]
def Video.stream (v : Video) (i : StreamId) : Stream := v.streams[i]
def Video.window (v : Video) (i : WindowId) : Window := v.windows[i]
def Video.input (v : Video) (i : PortId) : Ingest := v.ingest[i]
def Video.port (v : Video) (i : PortId) : Port := v.ports[i]
def Video.lock (v : Video) (i : PortId) : LockUnit := v.locks[i]

def Video.setSlot (v : Video) (i : SlotId) (x : Slot) : Video := { v with slots := v.slots.set i x }
def Video.setStream (v : Video) (i : StreamId) (x : Stream) : Video := { v with streams := v.streams.set i x }
def Video.setWindow (v : Video) (i : WindowId) (x : Window) : Video := { v with windows := v.windows.set i x }
def Video.setInput (v : Video) (i : PortId) (x : Ingest) : Video := { v with ingest := v.ingest.set i x }
def Video.setPort (v : Video) (i : PortId) (x : Port) : Video := { v with ports := v.ports.set i x }
def Video.setLock (v : Video) (i : PortId) (x : LockUnit) : Video := { v with locks := v.locks.set i x }

def Video.modSlot (v : Video) (i : SlotId) (f : Slot → Slot) : Video := v.setSlot i (f (v.slot i))
def Video.modStream (v : Video) (i : StreamId) (f : Stream → Stream) : Video := v.setStream i (f (v.stream i))
def Video.modWindow (v : Video) (i : WindowId) (f : Window → Window) : Video := v.setWindow i (f (v.window i))
def Video.modInput (v : Video) (i : PortId) (f : Ingest → Ingest) : Video := v.setInput i (f (v.input i))
def Video.modPort (v : Video) (i : PortId) (f : Port → Port) : Video := v.setPort i (f (v.port i))
def Video.modLock (v : Video) (i : PortId) (f : LockUnit → LockUnit) : Video := v.setLock i (f (v.lock i))

def allSlots : List SlotId := List.finRange 64
def allStreams : List StreamId := List.finRange 8
def allWindows : List WindowId := List.finRange 16
def allPorts : List PortId := List.finRange 4
def allLayers : List Layer := List.finRange 4

/-! ## Counters and sequence numbers -/

/-- R1: a counter keeps 4294967295 once it has reached it. -/
def satInc (c : Counter) : Counter := if c = BitVec.allOnes 32 then c else c + 1

/-- A count that saturates at `limit` (R88, R126). -/
def satNat (limit n : Nat) : Nat := if n < limit then n + 1 else n

/-- R7: `a` is newer than `b`. Any non-zero number is newer than 0, and 0 is newer than none (log 13). -/
def seqNewer (a b : Seq) : Bool :=
  if b = 0 then a != 0
  else if a = 0 then false
  else 1 ≤ (a - b).toNat && (a - b).toNat ≤ 2147483647

/-- R7: the sequence after `a`; the value after 4294967295 is 1. -/
def seqNext (a : Seq) : Seq := if a = BitVec.allOnes 32 then 1 else a + 1

/-! ## Sets of windows -/

def winBit (w : WindowId) : WinSet := 1#16 <<< w.val
def winHas (s : WinSet) (w : WindowId) : Bool := s.getLsbD w.val
def winAdd (s : WinSet) (w : WindowId) : WinSet := s ||| winBit w
def winDrop (s : WinSet) (w : WindowId) : WinSet := s &&& ~~~ winBit w

/-- The members of a set, in increasing order. -/
def winMembers (s : WinSet) : List WindowId := allWindows.filter (winHas s)

/-! ## Numbering of windows: window = port × 4 + layer (00 section 1) -/

def winOf (p : PortId) (l : Layer) : WindowId := ⟨4 * p.val + l.val, by omega⟩
def portOf (w : WindowId) : PortId := ⟨w.val / 4, by omega⟩
def layerOf (w : WindowId) : Layer := ⟨w.val % 4, by omega⟩

/-! ## Geometry -/

/-- R32: the bursts one line of the given width occupies. -/
def burstsOfLine (width bpp : Nat) : Nat := (width * bpp + 63) / 64

def Stream.lineBursts (st : Stream) : Nat := burstsOfLine st.width st.bpp

/-- R30: OPEN, RUNNING or STOPPING. -/
def Stream.live (st : Stream) : Bool :=
  match st.state with
  | .opened | .running | .stopping => true
  | .closed | .draining => false

/-- R7, R74: the sequence of a slot, by its number. -/
def Video.seqOf (v : Video) (i : SlotId) : Seq := (v.slot i).seq

/-- The pitch the region of a slot is computed with, its owner's (R5). -/
def Video.pitchOf (v : Video) (i : SlotId) : Nat :=
  match (v.slot i).owner with
  | some st => (v.stream st).pitch
  | none => 0

/-- R5: the byte address of a burst of a slot. -/
def Video.burstAddr (v : Video) (i : SlotId) (line burst : Nat) : Nat :=
  (v.slot i).base.toNat * 4096 + line * v.pitchOf i * 64 + burst * 64

/-- R5: the length in bytes of a region. -/
def regionBytes (pitch height : Nat) : Nat := pitch * 64 * height

/-- The pool slot that is READY with the given sequence, if there is one (R25, R59, R62). -/
def Video.readyWith (v : Video) (st : StreamId) (q : Seq) : Option SlotId :=
  (v.stream st).pool.find? fun i => (v.slot i).state == .ready && (v.slot i).seq == q

/-- R59, R76: the stream's READY slot that holds its newest sequence. -/
def Video.newestReady (v : Video) (st : StreamId) : Option SlotId :=
  if (v.stream st).newest = 0 then none else v.readyWith st (v.stream st).newest

/-- Of the listed slots the one with the oldest sequence (R10, R60, log 14). -/
def Video.oldest (v : Video) : List SlotId → Option SlotId
  | [] => none
  | i :: rest =>
    match v.oldest rest with
    | none => some i
    | some j => if seqNewer (v.seqOf i) (v.seqOf j) then some j else some i

/-! ## Frame memory (R138) -/

/-- A byte of frame memory. -/
def memRead : List Host.Cell → Nat → Byte
  | [], _ => Config.unlistedByte
  | (b, x) :: m, a => if a = b then x else memRead m a

/-- The cell `(a, x)` in front of `m`, left out when an unlisted byte reads as `x`. -/
def memCons (a : Nat) (x : Byte) (m : List Host.Cell) : List Host.Cell :=
  if x = Config.unlistedByte then m else (a, x) :: m

/-- One byte written, the canonical form kept. -/
def memWrite : List Host.Cell → Nat → Byte → List Host.Cell
  | [], a, x => memCons a x []
  | (b, y) :: m, a, x =>
    if a < b then memCons a x ((b, y) :: m)
    else if a = b then memCons a x m
    else (b, y) :: memWrite m a x

/-- The canonical form: addresses strictly rising from `low` on, and no cell that reads as an unlisted byte does. -/
def Memory.wfFrom : Nat → List Host.Cell → Bool
  | _, [] => true
  | low, (a, x) :: m => low ≤ a && x != Config.unlistedByte && Memory.wfFrom (a + 1) m

/-- The canonical form of frame memory. -/
def Memory.wf (m : List Host.Cell) : Bool := Memory.wfFrom 0 m

/-- Consecutive bytes written from address `a` on. -/
def memWriteAll (m : List Host.Cell) (a : Nat) : List Byte → List Host.Cell
  | [] => m
  | x :: xs => memWriteAll (memWrite m a x) (a + 1) xs

/-- R138: a write replaces all 64 bytes of its burst. -/
def memWriteBurst (m : List Host.Cell) (a : Nat) (d : Burst) : List Host.Cell := memWriteAll m a d.toList

/-- R138: a read returns the 64 bytes the burst holds. -/
def memReadBurst (m : List Host.Cell) (a : Nat) : Burst := Vector.ofFn fun i => memRead m (a + i.val)

/-- R138: the burst at `a` lies in frame memory and begins at a multiple of 64. -/
def burstInMemory (a : Nat) : Bool := a % 64 == 0 && a + 64 ≤ Config.memoryBytes

/-- A burst from a list of bytes, the bytes beyond the list 0 (R93). -/
def burstOf (xs : List Byte) : Burst := Vector.ofFn fun i => xs.getD i.val 0

/-- The byte of frame memory at `a`, as the state holds it. -/
def State.byteAt (s : State) (a : Nat) : Byte := memRead s.mem a

end Sys2Proof.Machine
end

