-- ==== Sys2Proof/Machine/Flags.lean ====
section
/-! DEFINITION. The flags of the part: damage kinds (R12), attention causes (R162), raising a cause (R163) and the
ATTN line (R164). -/

namespace Sys2Proof.Machine

/-- R12, in the order of R183. -/
inductive DamageKind where
  | overrun | shortFrame | longFrame | lineLength
  deriving DecidableEq, Repr

def DamageKind.bit : DamageKind → DamageSet
  | .overrun => 1
  | .shortFrame => 2
  | .longFrame => 4
  | .lineLength => 8

/-- R162: the causes of a stream entry. -/
inductive StreamCause where
  | inputLost | inputBack | overflow | damaged | drained
  deriving DecidableEq, Repr

/-- R162: the causes of a window entry. -/
inductive WindowCause where
  | underrun | chaseFault | mismatch
  deriving DecidableEq, Repr

/-- R162: the causes of a port entry. -/
inductive PortCause where
  | locked | lockLost | lockFail
  deriving DecidableEq, Repr

/-- R162: the causes of the device entry. -/
inductive DeviceCause where
  | dramReady | dramFailed | linkFault
  deriving DecidableEq, Repr

def StreamCause.bit : StreamCause → CauseSet
  | .inputLost => 1
  | .inputBack => 2
  | .overflow => 4
  | .damaged => 8
  | .drained => 16

def WindowCause.bit : WindowCause → CauseSet
  | .underrun => 1
  | .chaseFault => 2
  | .mismatch => 4

def PortCause.bit : PortCause → CauseSet
  | .locked => 1
  | .lockLost => 2
  | .lockFail => 4

def DeviceCause.bit : DeviceCause → CauseSet
  | .dramReady => 1
  | .dramFailed => 2
  | .linkFault => 4

/-- R162: the entry of a stream, a window, a scan-out port and the device. -/
def streamEntry (st : StreamId) : EntryId := ⟨st.val, by omega⟩
def windowEntry (w : WindowId) : EntryId := ⟨8 + w.val, by omega⟩
def portEntry (p : PortId) : EntryId := ⟨24 + p.val, by omega⟩
def deviceEntry : EntryId := 28

/-- R162: the causes of the kind of an entry, as a set. -/
def kindCauses (e : EntryId) : CauseSet := if e.val < 8 then 0x1F else 0x07

/-- R164: some entry has a cause that is both pending and enabled. -/
def attnAsserted (es : Vector AttnEntry 29) : Bool := es.toList.any fun e => e.pending &&& e.enabled != 0

def Attention.entry (a : Attention) (e : EntryId) : AttnEntry := a.entries[e]

/-- An entry changed and the line derived again, as every change of a set does (R164). -/
def Attention.modEntry (a : Attention) (e : EntryId) (f : AttnEntry → AttnEntry) : Attention :=
  let es := a.entries.set e (f (a.entry e))
  { entries := es, line := attnAsserted es }

/-- R163: a cause becomes pending; the enabled set is not consulted. -/
def Attention.raise (a : Attention) (e : EntryId) (cause : CauseSet) : Attention :=
  a.modEntry e fun x => { x with pending := x.pending ||| cause }

def Video.raise (v : Video) (e : EntryId) (cause : CauseSet) : Video := { v with attn := v.attn.raise e cause }
def Video.raiseStream (v : Video) (st : StreamId) (c : StreamCause) : Video := v.raise (streamEntry st) c.bit
def Video.raiseWindow (v : Video) (w : WindowId) (c : WindowCause) : Video := v.raise (windowEntry w) c.bit
def Video.raisePort (v : Video) (p : PortId) (c : PortCause) : Video := v.raise (portEntry p) c.bit
def Video.raiseDevice (v : Video) (c : DeviceCause) : Video := v.raise deviceEntry c.bit

end Sys2Proof.Machine
end

