-- ==== Sys2Proof/Machine/Slots.lean ====
section
/-! DEFINITION. The claims the slot table answers (Chapter 1), and the window table's forced fallback, which the slot
table hands over when a chased slot ends (R67, R83). -/

namespace Sys2Proof.Machine

/-! ## Reclaim and departure (R8, R9) -/

/-- R8 but for the last condition, that the slot is not leaving. -/
def Slot.unheldOld (sl : Slot) (newest : Seq) : Bool :=
  sl.state == .ready && sl.readers == 0 && sl.owed == 0 && !sl.pinned && sl.seq != newest

/-- R8: a READY slot that a take may reuse. -/
def Slot.reclaimable (sl : Slot) (newest : Seq) : Bool := sl.unheldOld newest && !sl.leaving

/-- R9: the conditions in which a claim leaves a slot that departs. -/
def Video.departs (v : Video) (i : SlotId) : Bool :=
  let sl := v.slot i
  match sl.owner with
  | none => false
  | some st =>
    (sl.leaving && sl.state == .empty)
      || (sl.leaving && sl.unheldOld (v.stream st).newest)
      || (sl.state == .detached && sl.readers == 0 && !sl.pinned)

/-- R35: one more unseen frame. -/
def Stream.countUnseen (st : Stream) : Stream := { st with unseen := satInc st.unseen }

/-- R9, R35: the slot holds a published frame that no window ever latched. A DETACHED slot keeps such a frame through
the close of its stream: "Departures during draining can still increment unseen" (R35, log 41). -/
def Slot.neverSeen (sl : Slot) : Bool := (sl.state == .ready || sl.state == .detached) && !sl.seen

/-- R9: a slot leaves its pool and becomes SPARE; the base is kept. A published frame nobody saw counts as unseen, and
the last slot of a DRAINING stream ends the drain (R47). -/
def Video.depart (v : Video) (i : SlotId) : Video :=
  let sl := v.slot i
  match sl.owner with
  | none => v
  | some st =>
    let v := if sl.neverSeen then v.modStream st Stream.countUnseen else v
    let v := v.modStream st fun x => { x with pool := x.pool.filter (· != i) }
    let v := v.setSlot i { Slot.reset with base := sl.base }
    if (v.stream st).state == .draining && (v.stream st).pool.isEmpty then
      (v.modStream st fun x => { x with state := .closed }).raiseStream st .drained
    else v

def Video.tryDepart (v : Video) (i : SlotId) : Video := if v.departs i then v.depart i else v

/-! ## Claims of windows (R16, R17, R19) -/

/-- R16: the latch claim. A slot in another state refuses it. -/
def Video.latchClaim (v : Video) (w : WindowId) (i : SlotId) : Video :=
  match (v.slot i).state with
  | .ready | .filling | .completing =>
    v.modSlot i fun sl => { sl with readers := winAdd sl.readers w, owed := winDrop sl.owed w, seen := true }
  | .spare | .empty | .detached => v

/-- R17: the release claim. -/
def Video.release (v : Video) (w : WindowId) (i : SlotId) : Video :=
  if winHas (v.slot i).readers w then
    let v' := v.modSlot i fun sl => { sl with readers := winDrop sl.readers w }
    match (v.slot i).state with
    | .ready | .detached => v'.tryDepart i
    | .filling | .completing => v'
    | .empty | .spare => v
  else v

/-- The release of a holding that may be none. -/
def Video.releaseOpt (v : Video) (w : WindowId) : Option SlotId → Video
  | none => v
  | some i => v.release w i

/-- R19: one window from one slot. -/
def Video.dischargeSlot (v : Video) (w : WindowId) (i : SlotId) : Video :=
  if winHas (v.slot i).owed w then
    (v.modSlot i fun sl => { sl with owed := winDrop sl.owed w }).tryDepart i
  else v

/-- R19: one window from every slot. -/
def Video.dischargeAll (v : Video) (w : WindowId) : Video :=
  allSlots.foldl (fun v i => v.dischargeSlot w i) v

/-- R19: one window from every slot of one stream whose sequence is not newer than `q`. -/
def Video.dischargeUpTo (v : Video) (w : WindowId) (st : StreamId) (q : Seq) : Video :=
  allSlots.foldl
    (fun v i => if (v.slot i).owner = some st ∧ !seqNewer (v.slot i).seq q then v.dischargeSlot w i else v) v

/-- R19: every window from every slot of one stream. -/
def Video.dischargeStream (v : Video) (st : StreamId) : Video :=
  allSlots.foldl
    (fun v i =>
      if (v.slot i).owner = some st ∧ (v.slot i).owed ≠ 0 then
        (v.modSlot i fun sl => { sl with owed := 0 }).tryDepart i
      else v) v

/-! ## Chase waits and the switch to the fallback (R79 to R83) -/

/-- The wait of a port ends (R80, R83, R86). -/
def Port.endWait (pt : Port) : Port := { pt with wait := none }

/-- R83, R86: the wait on a window ends. -/
def Video.endWaitOf (v : Video) (w : WindowId) : Video :=
  match (v.port (portOf w)).wait with
  | some wt => if wt.layer = layerOf w then v.modPort (portOf w) Port.endWait else v
  | none => v

/-- R80: the waits on a slot end whose source line satisfies `past`. -/
def Video.endWaitsOn (v : Video) (i : SlotId) (past : Nat → Bool) : Video :=
  allPorts.foldl
    (fun v p =>
      match (v.port p).wait with
      | some wt => if wt.slot = i ∧ past wt.srcLine then v.modPort p Port.endWait else v
      | none => v) v

/-- One part of a line store changed. -/
def LineStore.modPart (ls : LineStore) (l : Layer) (f : StorePart → StorePart) : LineStore :=
  { ls with parts := ls.parts.set l (f ls.parts[l]) }

/-- Every line store of a port changed. -/
def Port.mapStores (pt : Port) (f : LineStore → LineStore) : Port :=
  { pt with stores := Vector.ofFn fun k => f pt.stores[k] }

/-- R83 without a fallback: a line of the window not granted in full is painted in the border colour, and a line
granted in full is marked as kept: it is emitted from the chased slot (log 11). -/
def Port.keepGranted (pt : Port) (l : Layer) : Port :=
  pt.mapStores fun ls =>
    ls.modPart l fun part =>
      if part.mark = some .fetch then
        if pt.pendingReads.any (fun r => r.layer == l && some r.line == ls.line) then
          { part with mark := some .border }
        else { part with kept := true }
      else part

/-- The window table's part of R81 to R83: current becomes the fallback, or the window is left holding nothing; a
chase fault is counted and raised. A ready sequence that is set discharges the window (R19). -/
def Video.switchToFallback (v : Video) (w : WindowId) : Video :=
  let v :=
    match (v.window w).fallback with
    | some f =>
      let q := v.seqOf f
      let v := v.modWindow w fun x =>
        { x with current := some f, fallback := none, readySeq := q, state := .showing }
      match (v.slot f).owner with
      | some st => v.dischargeUpTo w st q
      | none => v
    | none =>
      v.modWindow w fun x => { x with current := none, state := .idle, holdTarget := 0, shown := 0 }
  (v.modWindow w fun x => { x with chaseFaults := satInc x.chaseFaults }).raiseWindow w .chaseFault

/-- R83: the forced fallback of a window whose chased slot was abandoned or discarded. -/
def Video.forcedFallback (v : Video) (w : WindowId) : Video :=
  let v :=
    match (v.window w).fallback with
    | some _ => v
    | none => v.modPort (portOf w) fun pt => pt.keepGranted (layerOf w)
  (v.endWaitOf w).switchToFallback w

/-! ## Claims of producers (R10 to R15) -/

/-- What a take answers (R10). -/
inductive TakeAnswer where
  /-- The stream already has a FILLING slot: nothing changes. -/
  | refused
  | noTarget
  | taken (slot : SlotId) (seq : Seq)
  deriving DecidableEq, Repr

/-- R10: the first slot that is EMPTY and not leaving, else the reclaimable slot with the oldest sequence. -/
def Video.takeTarget (v : Video) (st : StreamId) : Option SlotId :=
  let pool := (v.stream st).pool
  match pool.find? fun i => (v.slot i).state == .empty && !(v.slot i).leaving with
  | some i => some i
  | none => v.oldest (pool.filter fun i => (v.slot i).reclaimable (v.stream st).newest)

/-- The FILLING slot of a stream, if it has one. -/
def Video.fillingOf (v : Video) (st : StreamId) : Option SlotId :=
  (v.stream st).pool.find? fun i => (v.slot i).state == .filling

/-- R10: the take claim. -/
def Video.take (v : Video) (st : StreamId) : Video × TakeAnswer :=
  if (v.fillingOf st).isSome then (v, .refused)
  else
    match v.takeTarget st with
    | none => (v, .noTarget)
    | some i =>
      let q := (v.stream st).nextSeq
      let v := if (v.slot i).state == .ready && !(v.slot i).seen then v.modStream st Stream.countUnseen else v
      let v := v.modSlot i fun sl =>
        { sl with state := .filling, seq := q, committed := 0, damage := 0, readers := 0, owed := 0, seen := false }
      (v.modStream st fun x => { x with nextSeq := seqNext q, fillTarget := some i }, .taken i q)

/-- A claim of a producer names a slot and the sequence the take gave it (section 1.5); it reaches the slot when the
sequence still is the slot's and the slot is FILLING or COMPLETING. -/
def Video.claimReaches (v : Video) (i : SlotId) (q : Seq) : Bool :=
  (v.slot i).seq == q && ((v.slot i).state == .filling || (v.slot i).state == .completing)

/-- R11: the commit claim; a count that overtakes a waiting line ends the wait (R80). -/
def Video.commit (v : Video) (i : SlotId) (q : Seq) (n : Nat) : Video :=
  if v.claimReaches i q && (v.slot i).committed < n then
    (v.modSlot i fun sl => { sl with committed := n }).endWaitsOn i fun line => line < n
  else v

/-- R12: the mark claim. -/
def Video.markDamage (v : Video) (i : SlotId) (q : Seq) (k : DamageKind) : Video :=
  if v.claimReaches i q then v.modSlot i fun sl => { sl with damage := sl.damage ||| k.bit } else v

/-- R13: the end claim. -/
def Video.endClaim (v : Video) (i : SlotId) (q : Seq) : Video :=
  if (v.slot i).seq == q && (v.slot i).state == .filling then v.modSlot i fun sl => { sl with state := .completing }
  else v

/-- R14, R15: a slot whose frame is given up becomes EMPTY, or departs when it is leaving. -/
def Video.emptySlot (v : Video) (i : SlotId) : Video :=
  (v.modSlot i fun sl =>
    { sl with state := .empty, seq := 0, committed := 0, damage := 0, readers := 0, seen := false }).tryDepart i

/-- R14, R15: when the slot is the stream's fill target, the fill target becomes none. -/
def Stream.dropTarget (x : Stream) (i : SlotId) : Stream :=
  if x.fillTarget = some i then { x with fillTarget := none } else x

/-- R14, R15: the readers of a slot are removed and each is handed a forced fallback. -/
def Video.forceOutReaders (v : Video) (i : SlotId) : Video :=
  let ws := winMembers (v.slot i).readers
  ws.foldl Video.forcedFallback (v.modSlot i fun sl => { sl with readers := 0 })

/-- R15: the abandon claim. -/
def Video.abandon (v : Video) (i : SlotId) : Video :=
  match (v.slot i).owner with
  | none => v
  | some st =>
    if (v.slot i).state == .filling || (v.slot i).state == .completing then
      let v := v.forceOutReaders i
      let v := v.modStream st fun x => { x with abandoned := satInc x.abandoned }.dropTarget i
      v.emptySlot i
    else v

/-- R15 with the sequence of section 1.5. -/
def Video.abandonClaim (v : Video) (i : SlotId) (q : Seq) : Video :=
  if (v.slot i).seq = q then v.abandon i else v

/-- R18, R63: the windows a frame of the stream published now is owed to. -/
def Video.eligible (v : Video) (st : StreamId) : WinSet :=
  if (v.stream st).delivery = .ordered then
    (allWindows.filter fun w =>
      (v.window w).stream == some st
        && ((v.window w).state == .idle || (v.window w).state == .showing || (v.window w).state == .chasing)
        && (v.port (portOf w)).on).foldl winAdd 0
  else 0

/-- R14: the frame is discarded. -/
def Video.discardFrame (v : Video) (st : StreamId) (i : SlotId) : Video :=
  let seen := (v.slot i).seen
  let v := v.modStream st fun x => { x with discarded := satInc x.discarded }
  let v := if seen then v else v.modStream st Stream.countUnseen
  let v := v.forceOutReaders i
  (v.modStream st fun x => x.dropTarget i).emptySlot i

/-- R14: the frame is published. The slot that held the previous newest sequence may depart, and a wait on the slot
ends (R80). -/
def Video.publishFrame (v : Video) (st : StreamId) (i : SlotId) : Video :=
  let previous := v.newestReady st
  let owed := v.eligible st
  let q := v.seqOf i
  let damaged := (v.slot i).damage != 0
  let v := v.modSlot i fun sl => { sl with state := .ready, owed := owed }
  let v := v.modStream st fun x => { x with newest := q, published := satInc x.published }.dropTarget i
  let v := if damaged then v.raiseStream st .damaged else v
  let v := v.endWaitsOn i fun _ => true
  match previous with
  | some j => v.tryDepart j
  | none => v

/-- R14: the complete claim, made for a COMPLETING slot by an ingest port and for a FILLING slot by FRAME_PUBLISH. -/
def Video.complete (v : Video) (i : SlotId) (q : Seq) : Video :=
  match (v.slot i).owner with
  | none => v
  | some st =>
    let due :=
      (v.slot i).state == .completing
        || ((v.slot i).state == .filling && (v.stream st).source == some .host)
    if (v.slot i).seq == q && due then
      if (v.slot i).damage &&& (v.stream st).discardMask != 0 then v.discardFrame st i
      else v.publishFrame st i
    else v

/-! ## Claims of the stream table (R20 to R22) -/

/-- R20: the join claim. -/
def Video.join (v : Video) (st : StreamId) (i : SlotId) : Video :=
  if (v.slot i).state = .spare then
    (v.modSlot i fun sl => { sl with state := .empty, owner := some st, leaving := false }).modStream st
      fun x => { x with pool := x.pool ++ [i] }
  else v

/-- R6: the regions of two slots, given by their first bytes and lengths, share a byte. -/
def regionsMeet (a la b lb : Nat) : Bool := a < b + lb && b < a + la

/-- R6: the region check of one joining slot. -/
def Video.regionFits (v : Video) (pitch height : Nat) (joining : List SlotId) (i : SlotId) : Bool :=
  let a := (v.slot i).base.toNat * 4096
  let la := regionBytes pitch height
  a + la ≤ Config.memoryBytes
    && allSlots.all (fun j =>
      match (v.slot j).owner with
      | some st =>
        (v.slot j).state == .spare
          || !regionsMeet a la ((v.slot j).base.toNat * 4096)
            (regionBytes (v.stream st).pitch (v.stream st).height)
      | none => true)
    && joining.all (fun j => j == i || !regionsMeet a la ((v.slot j).base.toNat * 4096) la)

/-- R6: the region check of STREAM_OPEN and POOL_GROW. -/
def Video.regionCheck (v : Video) (pitch height : Nat) (joining : List SlotId) : Bool :=
  joining.all (v.regionFits pitch height joining)

/-- R21: the leave claim. The answer is true when the slot departed at once. -/
def Video.leave (v : Video) (st : StreamId) (i : SlotId) : Video × Bool :=
  let sl := v.slot i
  if sl.leaving then (v, false)
  else if sl.state == .empty || sl.unheldOld (v.stream st).newest then (v.depart i, true)
  else (v.modSlot i fun sl => { sl with leaving := true }, false)

/-- R22: one slot of the detach claim. -/
def Video.detachSlot (v : Video) (i : SlotId) : Video :=
  if (v.slot i).state == .empty || (v.slot i).state == .ready then
    if (v.slot i).readers == 0 && !(v.slot i).pinned then v.depart i
    else v.modSlot i fun sl => { sl with state := .detached, leaving := false }
  else v

/-- R22: the detach claim visits the pool in order. -/
def Video.detach (v : Video) (st : StreamId) : Video := (v.stream st).pool.foldl Video.detachSlot v

end Sys2Proof.Machine
end

