-- ==== Sys2Proof/Machine/Windows.lean ====
section
/-! DEFINITION. The window table: giving up holdings (R65), the frame-start steps (R54 to R62) and the start of a
chase (R75 to R77). -/

namespace Sys2Proof.Machine

/-! ## Placement (R51) -/

/-- R51: the window covers active line `y`. -/
def Window.coversLine (x : Window) (y : Nat) : Bool := x.dy ≤ y && y < x.dy + x.h * x.vrep

/-- R51: the window covers column `c` of a covered line. -/
def Window.coversColumn (x : Window) (c : Nat) : Bool := x.dx ≤ c && c < x.dx + x.w * x.hrep

/-- R51: the source line shown on active line `y`. -/
def Window.sourceLine (x : Window) (y : Nat) : Nat := x.y0 + (y - x.dy) / x.vrep

/-- R51: the source pixel shown in column `c`. -/
def Window.sourcePixel (x : Window) (c : Nat) : Nat := x.x0 + (c - x.dx) / x.hrep

/-! ## Giving up what a window holds (R65) -/

/-- A line kept by a forced switch is kept no longer (log 11). -/
def Port.dropKept (pt : Port) (l : Layer) : Port :=
  pt.mapStores fun ls => ls.modPart l fun part => { part with kept := false }

/-- R65, R86: the current and fallback slots are released, both become none, and a wait on the window ends. -/
def Video.giveUp (v : Video) (w : WindowId) : Video :=
  let cur := (v.window w).current
  let fb := (v.window w).fallback
  let v := v.modWindow w fun x => { x with current := none, fallback := none }
  let v := (v.releaseOpt w cur).releaseOpt w fb
  (v.endWaitOf w).modPort (portOf w) fun pt => pt.dropKept (layerOf w)

/-- R66: PORT_OFF reaches one window. -/
def Video.windowOff (v : Video) (w : WindowId) : Video :=
  let v := (v.giveUp w).dischargeAll w
  v.modWindow w fun x =>
    { x with
      holdTarget := 0
      shown := 0
      state := if x.state = .showing ∨ x.state = .chasing then .idle else x.state }

/-! ## The frame-start steps (R54) -/

/-- R53: the hold target becomes the cadence entry at the cursor, the cursor moves on, shown becomes 0, and one latch
is counted (R61, R76). -/
def Window.startHold (x : Window) : Window :=
  { x with
    holdTarget := x.cadence.getD x.cursor 0
    cursor := if x.cursor + 1 < x.cadence.length then x.cursor + 1 else 0
    shown := 0
    latches := satInc x.latches }

/-- R61: a latch makes a READY slot the window's current slot. -/
def Video.latch (v : Video) (w : WindowId) (st : StreamId) (i : SlotId) : Video :=
  let q := v.seqOf i
  let v := v.releaseOpt w (v.window w).current
  let v := v.latchClaim w i
  let v := v.modWindow w fun x => { x with current := some i, readySeq := q }
  let v := v.dischargeUpTo w st q
  v.modWindow w fun x => { x.startHold with state := .showing }

/-- R75: the chase decision; the answer is the fill target to be chased. -/
def Video.chaseTarget (v : Video) (w : WindowId) (st : StreamId) : Option SlotId :=
  let x := v.window w
  match (v.stream st).fillTarget, (v.stream st).source with
  | some f, some (.input _) =>
    let q := v.seqOf f
    let floorPassed :=
      match x.state, x.current with
      | .chasing, some c => seqNewer q (v.seqOf c)
      | _, _ => true
    if x.guard != 0
        && (v.stream st).delivery == .newest
        && ((v.slot f).state == .filling || (v.slot f).state == .completing)
        && seqNewer q x.readySeq && floorPassed
        && x.guard ≤ (v.slot f).committed
        && x.current != some f then
      some f
    else none
  | _, _ => none

/-- R76: the fallback set aside for a chase. -/
def Video.chooseFallback (v : Video) (w : WindowId) (st : StreamId) : Option SlotId :=
  match (v.window w).current with
  | some c => if (v.slot c).state == .ready then some c else v.newestReady st
  | none => v.newestReady st

/-- R76: the window begins to chase the fill target `f`. -/
def Video.startChase (v : Video) (w : WindowId) (st : StreamId) (f : SlotId) : Video :=
  let old := (v.window w).current
  let fb := v.chooseFallback w st
  let v := if old = fb then v else v.releaseOpt w old
  let v := v.latchClaim w f
  let v :=
    match fb with
    | some b => if old = some b then v else v.latchClaim w b
    | none => v
  v.modWindow w fun x => { x.startHold with current := some f, fallback := fb, state := .chasing }

/-- R62: no candidate and no chase. -/
def Video.noCandidate (v : Video) (w : WindowId) (st : StreamId) : Video :=
  match (v.window w).current with
  | some _ => v.modWindow w fun x => { x with repeats := satInc x.repeats }
  | none =>
    if (v.window w).readySeq = 0 then v
    else
      match v.readyWith st (v.window w).readySeq with
      | some i => v.latch w st i
      | none => v

/-- R77: the floor below which no frame is taken: the chase sequence of a CHASING window, else its ready sequence. -/
def Video.pickFloor (v : Video) (w : WindowId) : Seq :=
  match (v.window w).state, (v.window w).current with
  | .chasing, some c => v.seqOf c
  | _, _ => (v.window w).readySeq

/-- R59: the candidate of a window of a NEWEST stream. -/
def Video.newestCandidate (v : Video) (w : WindowId) (st : StreamId) : Option SlotId :=
  match v.newestReady st with
  | some i => if seqNewer (v.seqOf i) (v.pickFloor w) then some i else none
  | none => none

/-- R60: the candidate of a window of an ORDERED stream. -/
def Video.orderedCandidate (v : Video) (w : WindowId) (st : StreamId) : Option SlotId :=
  if (v.window w).readySeq = 0 then v.newestReady st
  else v.oldest ((v.stream st).pool.filter fun i => (v.slot i).state == .ready && winHas (v.slot i).owed w)

/-- R59, R60: the pick by the stream's delivery mode. -/
def Video.pick (v : Video) (w : WindowId) (st : StreamId) : Video :=
  match (v.stream st).delivery with
  | .newest =>
    match v.chaseTarget w st with
    | some f => v.startChase w st f
    | none =>
      match v.newestCandidate w st with
      | some i => v.latch w st i
      | none => v.noCandidate w st
  | .ordered =>
    match v.orderedCandidate w st with
    | some i => v.latch w st i
    | none => v.noCandidate w st

/-- R58: the hold step, and the pick when the hold has ended or nothing is held. -/
def Video.holdAndPick (v : Video) (w : WindowId) (st : StreamId) : Video :=
  match (v.window w).current with
  | none => v.pick w st
  | some _ =>
    let v := v.modWindow w fun x => { x with shown := min 15 (x.shown + 1) }
    if (v.window w).shown < (v.window w).holdTarget then v else v.pick w st

/-- R57: the chase close-out. -/
def Video.closeOut (v : Video) (w : WindowId) (st : StreamId) : Video :=
  if (v.window w).state = .chasing then
    let fb := (v.window w).fallback
    let v := (v.modWindow w fun x => { x with fallback := none }).releaseOpt w fb
    match (v.window w).current with
    | some c =>
      if (v.slot c).state == .ready then
        let q := v.seqOf c
        (v.modWindow w fun x => { x with state := .showing, readySeq := q }).dischargeUpTo w st q
      else v
    | none => v
  else v

/-- R56: the mismatch check fails. -/
def Video.mismatched (v : Video) (w : WindowId) (st : StreamId) : Bool :=
  let x := v.window w
  (v.stream st).bpp != (v.port (portOf w)).bpp
    || (v.stream st).width < x.x0 + x.w
    || (v.stream st).height < x.y0 + x.h

/-- R56: entry into MISMATCH. -/
def Video.enterMismatch (v : Video) (w : WindowId) : Video :=
  let v := (v.giveUp w).dischargeAll w
  (v.modWindow w fun x => { x with holdTarget := 0, shown := 0, state := .mismatch }).raiseWindow w .mismatch

/-- R54: the frame-start steps of one window. -/
def Video.windowFrameStart (v : Video) (w : WindowId) : Video :=
  if (v.window w).state = .clear then v
  else
    match (v.window w).stream with
    | none => v
    | some st =>
      if (v.stream st).live then
        if v.mismatched w st then
          if (v.window w).state = .mismatch then v else v.enterMismatch w
        else
          let v :=
            if (v.window w).state = .mismatch then v.modWindow w fun x => { x with state := .idle } else v
          (v.closeOut w st).holdAndPick w st
      else
        -- R55: the stream is CLOSED or DRAINING
        (v.giveUp w).modWindow w fun x => { x with holdTarget := 0, shown := 0, state := .idle }

/-- R54: the four windows of a port, layer 0 first. -/
def Video.windowSteps (v : Video) (p : PortId) : Video :=
  allLayers.foldl (fun v l => v.windowFrameStart (winOf p l)) v

end Sys2Proof.Machine
end

