-- ==== Sys2Proof/Machine/Fetch.lean ====
section
/-! DEFINITION. The fetcher of a scan-out port: the decisions of R113, the reads of R114 and the chase wait of R79.
The decisions take no time of their own, so the fetcher is run as far as it may go in the happening that lets it. -/

namespace Sys2Proof.Machine

/-- R112: the store assigned to an active line. -/
def Port.storeOf (pt : Port) (y : Nat) : Option (Fin 4) :=
  allLayers.find? fun k => pt.stores[k].line == some y

/-- R112: a free store. The spec says no more than "a free store": the lowest-numbered one is taken (DESIGN CHOICE, log
39). -/
def Port.freeStore (pt : Port) : Option (Fin 4) := allLayers.find? fun k => pt.stores[k].line == none

def Port.modStore (pt : Port) (k : Fin 4) (f : LineStore → LineStore) : Port :=
  { pt with stores := pt.stores.set k (f pt.stores[k]) }

/-- The store assigned to line `y`, if there is one, changed. -/
def Port.modStoreOf (pt : Port) (y : Nat) (f : LineStore → LineStore) : Port :=
  match pt.storeOf y with
  | some k => pt.modStore k f
  | none => pt

/-- R112: the mark of a window's part of line `y`. -/
def Port.setMark (pt : Port) (y : Nat) (l : Layer) (m : Mark) : Port :=
  pt.modStoreOf y fun ls => ls.modPart l fun part => { part with mark := some m }

/-- R112, R113: the fetcher begins active line `y` and assigns a free store to it. -/
def Port.beginLine (pt : Port) (y : Nat) : Port :=
  let pt := { pt with fetchLine := some y, fetchLayer := 0 }
  match pt.freeStore with
  | some k => pt.modStore k fun _ => { LineStore.free with line := some y }
  | none => pt

/-- R112: the store of line `y` is freed. -/
def Port.freeLine (pt : Port) (y : Nat) : Port := pt.modStoreOf y fun _ => LineStore.free

/-- R114: the burst indices of the crop's bytes on a line, with the stream's bytes per pixel. -/
def cropBursts (x : Window) (bpp : Nat) : List Nat :=
  let first := x.x0 * bpp / 64
  let last := ((x.x0 + x.w) * bpp - 1) / 64
  (List.range (last + 1 - first)).map (first + ·)

/-- R114: the reads of a window's source line. -/
def Video.readsOf (v : Video) (w : WindowId) (y : Nat) (i : SlotId) : List PendingRead :=
  let x := v.window w
  let bpp := match x.stream with
    | some st => (v.stream st).bpp
    | none => 0
  (cropBursts x bpp).map fun b => { layer := layerOf w, line := y, srcLine := x.sourceLine y, burst := b, slot := i }

/-- What the fetcher decides for a window's part of a line (R113). -/
inductive FetchDecision where
  | nothing
  | border
  | fetch (slot : SlotId)
  | wait (slot : SlotId)
  deriving DecidableEq, Repr

/-- R113, R78: the decision for window `w` and active line `y`. -/
def Video.fetchDecision (v : Video) (w : WindowId) (y : Nat) : FetchDecision :=
  let x := v.window w
  if x.state = .clear ∨ !x.coversLine y then .nothing
  else
    match x.current with
    | none => .border
    | some i =>
      if x.sourceLine y < (v.slot i).committed then .fetch i
      else
        match (v.slot i).state with
        | .filling | .completing => .wait i
        | .spare | .empty | .ready | .detached => .border

/-- R113: the fetcher decides the part of layer `l` of its fetch line `y`. -/
def Video.decideLayer (v : Video) (p : PortId) (y : Nat) (l : Layer) : Video :=
  let w := winOf p l
  match v.fetchDecision w y with
  | .nothing => v.modPort p fun pt => { pt with fetchLayer := l.val + 1 }
  | .border => v.modPort p fun pt => { (pt.setMark y l .border) with fetchLayer := l.val + 1 }
  | .fetch i =>
    let reads := v.readsOf w y i
    v.modPort p fun pt =>
      { (pt.setMark y l .fetch) with fetchLayer := l.val + 1, pendingReads := pt.pendingReads ++ reads }
  | .wait i =>
    let s := (v.window w).sourceLine y
    v.modPort p fun pt => { pt with wait := some { layer := l, slot := i, srcLine := s, line := y } }

/-- R113: one decision, or the move to the next line when the lead allows it. -/
def Video.pumpStep (v : Video) (p : PortId) : Video :=
  let pt := v.port p
  match pt.on, pt.fetchLine, pt.wait with
  | true, some y, none =>
    if h : pt.fetchLayer < 4 then v.decideLayer p y ⟨pt.fetchLayer, h⟩
    else if pt.activeLines ≤ y + 1 then v.modPort p fun pt => { pt with fetchLine := none }
    else if y + 1 ≤ pt.emissionLine + 3 then v.modPort p fun pt => pt.beginLine (y + 1)
    else v
  | _, _, _ => v

/-- The fetcher run for at most `fuel` decisions. -/
def Video.pumpFor : Nat → Video → PortId → Video
  | 0, v, _ => v
  | fuel + 1, v, p => (v.pumpStep p).pumpFor fuel p

/-- The fetcher run until it waits, is done or has reached its lead. It is never more than the four lines of its
stores behind, so 32 decisions reach that point. -/
def Video.pump (v : Video) (p : PortId) : Video := v.pumpFor 32 p

/-- R80, R83, R86: a fetcher whose wait ended in a happening that led from `before` to `v` resumes. -/
def Video.resumeFrom (before v : Video) : Video :=
  allPorts.foldl
    (fun v p => if (before.port p).wait.isSome && (v.port p).wait.isNone then v.pump p else v) v

/-- A happening after which every fetcher whose wait it ended resumes, all its switches being made first. -/
def resuming (f : Video → Video) (v : Video) : Video := Video.resumeFrom v (f v)

end Sys2Proof.Machine
end

