-- ==== Sys2Proof/Machine/ScanOut.lean ====
section
/-! DEFINITION. The scan-out port: its frame start (R110, R111), emission start (R117), composition (R118),
underruns (R119), the chase fault (R81, R82) and its line starts (R109). -/

namespace Sys2Proof.Machine

/-! ## Composition (R118) -/

/-- R118: the lowest `bpp` bytes of a value, the higher lanes low. -/
def lanes (bpp : Nat) (c : BitVec 32) : BitVec 32 := c &&& BitVec.ofNat 32 (2 ^ (8 * bpp) - 1)

/-- The arrived burst with the given index. -/
def StorePart.burst? (part : StorePart) (b : Nat) : Option Burst := (part.bursts.find? fun e => e.1 == b).map (·.2)

/-- The byte at an offset of the source line, when its burst has arrived. -/
def StorePart.byte? (part : StorePart) (o : Nat) : Option Byte :=
  (part.burst? (o / 64)).map fun d => d.toList.getD (o % 64) 0

/-- R118: the bytes from an offset on, lowest-addressed byte on the lowest lane; none when a burst is missing. -/
def StorePart.lanes? (part : StorePart) (o : Nat) : Nat → Option (BitVec 32)
  | 0 => some 0
  | n + 1 =>
    match part.byte? o, part.lanes? (o + 1) n with
    | some x, some rest => some (x.setWidth 32 ||| rest <<< 8)
    | _, _ => none

/-- What one pixel of an active line is painted with. -/
inductive PixelPaint where
  | border
  | underrun (layer : Layer)
  | data (value : BitVec 32)
  deriving DecidableEq, Repr

/-- The part of a line's store that belongs to a layer; a line without a store has none of it. -/
def Port.partOf (pt : Port) (y : Nat) (l : Layer) : StorePart :=
  match pt.storeOf y with
  | some k => pt.stores[k].parts[l]
  | none => StorePart.blank

/-- R118: a pixel of the window on `layer`, which covers it. A window that holds nothing paints the border colour, but
for a line that a forced switch without a fallback left granted in full, which is emitted from the chased slot (R83,
R124, log 11). The bytes per pixel are those of the window's stream as it stands at the emission start, for such a line
too, though its stream may have been closed and opened anew since (DESIGN CHOICE, log 43). -/
def Video.windowPixel (v : Video) (p : PortId) (y : Nat) (l : Layer) (c : Nat) : PixelPaint :=
  let x := v.window (winOf p l)
  let part := (v.port p).partOf y l
  let bpp := match x.stream with
    | some st => (v.stream st).bpp
    | none => 0
  if x.current = none ∧ part.kept = false then .border
  else
    match part.mark with
    | some .border => .border
    | some .fetch =>
      match part.lanes? (x.sourcePixel c * bpp) bpp with
      | some value => .data value
      | none => .underrun l
    | none => .underrun l

/-- R118: the highest layer whose window covers column `c` of line `y` and is not CLEAR. -/
def Video.topLayer (v : Video) (p : PortId) (y c : Nat) : Option Layer :=
  allLayers.reverse.find? fun l =>
    let x := v.window (winOf p l)
    x.state != .clear && x.coversLine y && x.coversColumn c

/-- R118: what column `c` of active line `y` is painted with. -/
def Video.paintAt (v : Video) (p : PortId) (y c : Nat) : PixelPaint :=
  match v.topLayer p y c with
  | some l => v.windowPixel p y l c
  | none => .border

/-- R118: the composed active line. -/
def Video.composeLine (v : Video) (p : PortId) (y : Nat) : List PixelPaint :=
  (List.range (v.port p).activeWidth).map (v.paintAt p y)

/-- R118: what a pixel drives on OUTn_D. -/
def Port.drive (pt : Port) : PixelPaint → BitVec 32
  | .border => lanes pt.bpp pt.borderColour
  | .underrun _ => lanes pt.bpp pt.underrunColour
  | .data value => value

/-! ## Underruns and the chase fault -/

/-- R119: an underrun line of a window is counted and raised. -/
def Video.reportUnderrun (v : Video) (w : WindowId) : Video :=
  (v.modWindow w fun x => { x with underrunLines := satInc x.underrunLines }).raiseWindow w .underrun

/-- R119: each window that painted an underrun pixel on the line is reported once. -/
def Video.reportUnderruns (v : Video) (p : PortId) (line : List PixelPaint) : Video :=
  allLayers.foldl (fun v l => if line.contains (.underrun l) then v.reportUnderrun (winOf p l) else v) v

/-- R81 steps 3 to 5, R82: the wait ends, the waiting window releases the chased slot and switches to its fallback. -/
def Video.chaseFault (v : Video) (p : PortId) (l : Layer) : Video :=
  let w := winOf p l
  let chased := (v.window w).current
  let v := v.modPort p Port.endWait
  (v.switchToFallback w).releaseOpt w chased

/-! ## Emission start (R117) -/

/-- R113: the fetcher gives up line `y` when it is still at it. -/
def Port.leaveLine (pt : Port) (y : Nat) : Port :=
  if pt.fetchLine = some y then
    if pt.activeLines ≤ y + 1 then { pt with fetchLine := none } else pt.beginLine (y + 1)
  else pt

/-- R117: the emission start of active line `y`. -/
def Video.emissionStart (v : Video) (p : PortId) (y : Nat) : Video :=
  let v := v.modPort p fun pt => { pt with pendingReads := pt.pendingReads.filter fun r => r.line != y }
  let line := v.composeLine p y
  let v := v.reportUnderruns p line
  let v :=
    match (v.port p).wait with
    | some wt => if wt.line = y then v.chaseFault p wt.layer else v
    | none => v
  let v := v.modPort p fun pt =>
    { (pt.leaveLine y) with emissionLine := y, pins := { pt.pins with pixels := line.map pt.drive } }
  v.pump p

/-! ## Frame start (R110, R111) -/

/-- R110, steps 1 to 4 and 6, but for the window steps and the fetch. -/
def Port.startFrame (pt : Port) : Port :=
  { pt with
    frames := satInc pt.frames
    frameNumber := pt.frameNumber + 1
    frameTotal := pt.nextTotal
    nextTotal := pt.totalLines
    wait := none
    pendingReads := []
    stores := Vector.replicate 4 LineStore.free
    lineCounter := 0
    emissionLine := 0
    pins := { pixels := [], fsync := true, lsync := true } }

/-- R110: a frame start of an ON port. The port's first one lets the lock unit take samples (R128, R135). -/
def Video.frameStart (v : Video) (p : PortId) : Video :=
  let v := v.modPort p Port.startFrame
  let v := v.windowSteps p
  let v := (v.modPort p fun pt => pt.beginLine 0).pump p
  v.modLock p fun u => { u with firstFrameSeen := true }

/-- R111: a frame start the lock unit orders while it is acquiring. -/
def Video.cut (v : Video) (p : PortId) : Video :=
  (v.modPort p fun pt => { pt with cutFrames := satInc pt.cutFrames }).frameStart p

/-! ## Line start (R109) -/

/-- R109: the pins at the start of a port line that is no frame start; the pulse on OUTn_LSYNC is a free choice where
the table names none (log 12). -/
def Port.linePins (pt : Port) (line : Nat) : OutPins :=
  { pixels := []
    fsync := false
    lsync :=
      if line < pt.topBlank ∨ pt.topBlank + pt.activeLines < line then true else Config.lsyncWhereUnstated }

/-- R109: a line start of an ON port that does not reach the frame total. -/
def Video.portLine (v : Video) (p : PortId) : Video :=
  let line := (v.port p).lineCounter + 1
  let v := v.modPort p fun pt => { pt with lineCounter := line, pins := pt.linePins line }
  let pt := v.port p
  -- the store of the active line whose emission ends here is freed
  let v :=
    if pt.topBlank < line ∧ line ≤ pt.topBlank + pt.activeLines then
      v.modPort p fun pt => pt.freeLine (line - pt.topBlank - 1)
    else v
  if pt.topBlank ≤ line ∧ line < pt.topBlank + pt.activeLines then v.emissionStart p (line - pt.topBlank) else v

/-- R109: a line start of an ON port's timing generator. -/
def Video.lineStart (v : Video) (p : PortId) : Video :=
  if (v.port p).frameTotal ≤ (v.port p).lineCounter + 1 then v.frameStart p else v.portLine p

end Sys2Proof.Machine
end

