-- ==== Sys2Proof/Machine/Locks.lean ====
section
/-! DEFINITION. The lock units (Chapter 7): reference frame starts, sampling, acquiring, bending, loss of the
reference. -/

namespace Sys2Proof.Machine

/-- R126: the capture limit always equals 16 × D. -/
def LockUnit.captureLimit (u : LockUnit) : Nat := 16 * u.delta

/-- R129: the phase error for port line `p` in a frame of `total` lines. -/
def phaseError (p total : Nat) : Int := if 2 * p < total then (p : Int) else (p : Int) - (total : Int)

/-- The next total of an ON port set back to total lines (R127, R131, R132, R133, R134). -/
def Port.nominalNext (pt : Port) : Port := if pt.on then { pt with nextTotal := pt.totalLines } else pt

/-- R127: an entry into ACQUIRING by LOCK_SET, PORT_ON or a sample in LOCKED. -/
def LockUnit.acquire (u : LockUnit) : LockUnit := { u with state := .acquiring, countdown := 1, samples := 0 }

/-- R130: a sample in ACQUIRING with phase error `e`. -/
def Video.sampleAcquiring (v : Video) (p : PortId) (e : Int) : Video :=
  let u := v.lock p
  if e.natAbs ≤ u.window then
    (v.modLock p fun u => { u with state := .locked }).raisePort p .locked
  else
    let v := v.cut p
    if u.samples = 8 then v.raisePort p .lockFail else v

/-- R131: a sample in LOCKED with phase error `e`, the first matching row. -/
def Video.sampleLocked (v : Video) (p : PortId) (e : Int) : Video :=
  let u := v.lock p
  if u.captureLimit < e.natAbs then
    ((v.modLock p LockUnit.acquire).raisePort p .lockLost).modPort p fun pt => { pt with nextTotal := pt.totalLines }
  else if (u.window : Int) < e then
    v.modPort p fun pt => { pt with nextTotal := pt.totalLines + u.delta }
  else if e < -(u.window : Int) then
    v.modPort p fun pt => { pt with nextTotal := pt.totalLines - u.delta }
  else v.modPort p fun pt => { pt with nextTotal := pt.totalLines }

/-- R129: a sample reads the line counter and the frame total, counts, and acts by the unit's state. A sample in
HOLDOVER enters ACQUIRING with samples 0, is counted there and evaluated under R130 (R132). -/
def Video.sample (v : Video) (p : PortId) : Video :=
  let e := phaseError (v.port p).lineCounter (v.port p).frameTotal
  match (v.lock p).state with
  | .unlocked => v
  | .acquiring =>
    (v.modLock p fun u => { u with lastError := e, samples := satNat 65535 u.samples }).sampleAcquiring p e
  | .locked => (v.modLock p fun u => { u with lastError := e, samples := satNat 65535 u.samples }).sampleLocked p e
  | .holdover =>
    (v.modLock p fun u => { u with lastError := e, samples := 1, state := .acquiring }).sampleAcquiring p e

/-- R128: a reference frame start of stream `st` offered to the lock unit of port `p`. -/
def Video.offerTo (v : Video) (st : StreamId) (p : PortId) : Video :=
  let u := v.lock p
  if u.state ≠ .unlocked ∧ u.refStream = st ∧ u.firstFrameSeen then
    if u.countdown ≤ 1 then (v.modLock p fun u => { u with countdown := u.interval }).sample p
    else v.modLock p fun u => { u with countdown := u.countdown - 1 }
  else v

/-- R128: a reference frame start is offered to all four lock units. When it cuts several ports, OUT0 to OUT3 run their
frame-start steps in this order; R54 leaves either order (DESIGN CHOICE, log 38). -/
def Video.offerReference (v : Video) (st : StreamId) : Video := allPorts.foldl (fun v p => v.offerTo st p) v

/-- R132: the reference is lost for the units in ACQUIRING or LOCKED that follow stream `st`. -/
def Video.loseReference (v : Video) (st : StreamId) : Video :=
  allPorts.foldl
    (fun v p =>
      let u := v.lock p
      if u.refStream = st ∧ (u.state = .acquiring ∨ u.state = .locked) then
        (v.modLock p fun u => { u with state := .holdover, countdown := 1 }).modPort p Port.nominalNext
      else v) v

/-- R134, R135: the configuration is cleared. -/
def LockUnit.clearConfig (u : LockUnit) : LockUnit :=
  { u with configured := false, refStream := 0, interval := 1, window := 0, delta := 1 }

/-- R133: the last row of LOCK_SET's refusal table admits the delta. -/
def Port.admitsDelta (pt : Port) (d : Nat) : Bool :=
  pt.topBlank + pt.activeLines + 1 + d ≤ pt.totalLines && pt.totalLines + d ≤ 8191

end Sys2Proof.Machine
end

