-- ==== Sys2Proof/Machine/Input.lean ====
section
/-! DEFINITION. The ingest ports (Chapter 5): binding, pixels, lines and bursts, frame ends and starts, input loss,
the write FIFO, completions, commit and complete. `flying` is the in-flight list of the DRAM channel, which R101 asks
about. -/

namespace Sys2Proof.Machine

/-! ## The write FIFO (R98, R99) -/

/-- R98, R99: what every change of the level or of the marks brings about: the run follows the level, and an empty
FIFO ends the tail flush. -/
def Ingest.settleFifo (g : Ingest) : Ingest :=
  if g.fifo.isEmpty then { g with run := false, tailFlush := false }
  else if g.normalMark ≤ g.fifo.length then { g with run := true }
  else g

/-- R99: the tail flush begins when the FIFO is not empty. -/
def Ingest.beginFlush (g : Ingest) : Ingest := { g with tailFlush := g.tailFlush || !g.fifo.isEmpty }

/-- R98, R99: the request a FIFO presents. -/
def Ingest.request (g : Ingest) : Option ReqClass :=
  if g.fifo.isEmpty then none
  else if g.urgentMark ≤ g.fifo.length then some .urgent
  else if g.tailFlush || g.normalMark ≤ g.fifo.length || g.run then some .normal
  else none

/-! ## Frame entries (R88, R100) -/

/-- The record of line `n` changed, a new one made where there is none. -/
def modLineRec (n : Nat) (f : LineRec → LineRec) : List LineRec → List LineRec
  | [] => [f { line := n, ended := false, outstanding := 0 }]
  | r :: rs => if r.line = n then f r :: rs else r :: modLineRec n f rs

def FrameEntry.modLine (e : FrameEntry) (n : Nat) (f : LineRec → LineRec) : FrameEntry :=
  { e with lines := modLineRec n f e.lines }

def FrameEntry.isFor (e : FrameEntry) (i : SlotId) (q : Seq) : Bool := e.slot == i && e.seq == q

/-- R100: the entry of a slot and sequence. -/
def Ingest.frame? (g : Ingest) (i : SlotId) (q : Seq) : Option FrameEntry := g.frames.find? fun e => e.isFor i q

def Ingest.modFrame (g : Ingest) (i : SlotId) (q : Seq) (f : FrameEntry → FrameEntry) : Ingest :=
  { g with frames := g.frames.map fun e => if e.isFor i q then f e else e }

/-- R100: the commit point advances while its line has ended, lies below the height and has no outstanding burst. -/
def advanceFor (height : Nat) : Nat → FrameEntry → FrameEntry
  | 0, e => e
  | fuel + 1, e =>
    match e.lines.find? fun r => r.line == e.commitPoint with
    | some r =>
      if r.ended && r.outstanding == 0 && e.commitPoint < height then
        advanceFor height fuel
          { e with commitPoint := e.commitPoint + 1, lines := e.lines.filter fun x => x.line != e.commitPoint }
      else e
    | none => e

/-- R100: the commit point advanced as far as it goes; each advance uses up one line record. -/
def FrameEntry.advance (e : FrameEntry) (height : Nat) : FrameEntry := advanceFor height e.lines.length e

/-- The height of the stream a port is bound to. -/
def Video.inputHeight (v : Video) (p : PortId) : Nat :=
  match (v.input p).stream with
  | some st => (v.stream st).height
  | none => 0

/-- R100: the commit point of an entry is advanced, with one commit claim when it has moved. -/
def Video.advanceCommit (v : Video) (p : PortId) (i : SlotId) (q : Seq) : Video :=
  match (v.input p).frame? i q with
  | none => v
  | some e =>
    let e' := e.advance (v.inputHeight p)
    let v := v.modInput p fun g => g.modFrame i q fun _ => e'
    if e.commitPoint < e'.commitPoint then v.commit i q e'.commitPoint else v

/-! ## Complete (R101) -/

/-- The transfer is a write of port `p` for the given frame. -/
def Transfer.isOf (t : Transfer) (p : PortId) (i : SlotId) (q : Seq) : Bool :=
  match t with
  | .ingestWrite port _ tag _ => port == p && tag.slot == i && tag.seq == q
  | .portRead .. | .hostWrite .. | .hostRead .. => false

/-- The transfer is a write of port `p`. -/
def Transfer.isWriteOf (t : Transfer) (p : PortId) : Bool :=
  match t with
  | .ingestWrite port _ _ _ => port == p
  | .portRead .. | .hostWrite .. | .hostRead .. => false

/-- R102: the writes of port `p` in flight that are no orphans. Transfers complete in issue order, so the orphans are
the oldest of the port's writes. -/
def Ingest.ownWrites (g : Ingest) (p : PortId) (flying : List Transfer) : List Transfer :=
  (flying.filter fun t => t.isWriteOf p).drop g.orphans

/-- R101: the frame is ended and none of its bursts is in the FIFO or in flight. An orphan in flight is no burst of the
frame, though a frame of an earlier life of the stream may have had the same slot and sequence (R102). -/
def Ingest.frameDone (g : Ingest) (p : PortId) (flying : List Transfer) (e : FrameEntry) : Bool :=
  e.ended
    && !(g.fifo.any fun b => b.tag.slot == e.slot && b.tag.seq == e.seq)
    && !((g.ownWrites p flying).any fun t => t.isOf p e.slot e.seq)

/-- R101: the first entries of the frame list complete while they may. -/
def Video.completeFor (p : PortId) (flying : List Transfer) : Nat → Video → Video
  | 0, v => v
  | fuel + 1, v =>
    match (v.input p).frames with
    | [] => v
    | e :: rest =>
      if (v.input p).frameDone p flying e then
        completeFor p flying fuel
          ((v.complete e.slot e.seq).modInput p fun g => { g with frames := rest })
      else v

/-- R101: the check, down the frame list. -/
def Video.completeFrames (v : Video) (p : PortId) (flying : List Transfer) : Video :=
  Video.completeFor p flying (v.input p).frames.length v

/-! ## Bursts and lines (R91 to R93) -/

/-- R92: the burst is dropped with its damage. -/
def Video.dropBurst (v : Video) (p : PortId) (i : SlotId) (q : Seq) (k : DamageKind) : Video :=
  (v.markDamage i q k).modInput p fun g => { g with burstsDropped := satInc g.burstsDropped }

/-- R92: a burst ready is answered by the first matching row. -/
def Video.burstReady (v : Video) (p : PortId) (st : StreamId) (b : BurstEntry) : Video :=
  let t := b.tag
  if (v.stream st).height ≤ t.line then v.dropBurst p t.slot t.seq .longFrame
  else if (v.stream st).lineBursts ≤ t.burst then v.dropBurst p t.slot t.seq .lineLength
  else if Config.fifoDepth ≤ (v.input p).fifo.length then v.dropBurst p t.slot t.seq .overrun
  else
    v.modInput p fun g =>
      ({ g with fifo := g.fifo ++ [b] }.modFrame t.slot t.seq fun e =>
        e.modLine t.line fun r => { r with outstanding := r.outstanding + 1 }).settleFifo

/-- R91, R93: the packer forms a burst from the given bytes, those beyond them 0, and keeps `rest`. -/
def Video.formBurst (v : Video) (p : PortId) (st : StreamId) (i : SlotId) (q : Seq) (bytes rest : List Byte) : Video :=
  let g := v.input p
  let b : BurstEntry :=
    { tag := { slot := i, seq := q, line := g.lineIndex, burst := g.burstsFormed }, data := burstOf bytes }
  let v := v.modInput p fun g =>
    { g with burstsFormed := if g.burstsFormed < 1024 then g.burstsFormed + 1 else g.burstsFormed, packer := rest }
  v.burstReady p st b

/-- R91: the bytes of a pixel, lowest byte first. -/
def pixelBytes (bpp : Nat) (data : BitVec 32) : List Byte :=
  (List.range bpp).map fun k => (data >>> (8 * k)).setWidth 8

/-- R93: a line end; nothing when no line is open. -/
def Video.endLine (v : Video) (p : PortId) (st : StreamId) (i : SlotId) (q : Seq) : Video :=
  let g := v.input p
  if g.lineOpen then
    let v := if g.packer.isEmpty then v else v.formBurst p st i q g.packer []
    let x := v.stream st
    let v :=
      if g.lineIndex < x.height then
        let v := if g.pixelCount = x.width then v else v.markDamage i q .lineLength
        v.modInput p fun g => { g with linesReceived := g.linesReceived + 1 }
      else v.markDamage i q .longFrame
    let v := v.modInput p fun g =>
      { (g.modFrame i q fun e => e.modLine g.lineIndex fun r => { r with ended := true }) with
        lineIndex := satNat 65535 g.lineIndex
        lineOpen := false }
    v.advanceCommit p i q
  else v

/-- R91: a pixel taken on an open line. -/
def Video.takePixel (v : Video) (p : PortId) (st : StreamId) (i : SlotId) (q : Seq) (data : BitVec 32) : Video :=
  let bytes := (v.input p).packer ++ pixelBytes (v.stream st).bpp data
  let v := v.modInput p fun g => { g with pixelCount := satNat 65535 g.pixelCount }
  if bytes.length < 64 then v.modInput p fun g => { g with packer := bytes }
  else v.formBurst p st i q (bytes.take 64) (bytes.drop 64)

/-- R91: a line start opens a line, ending an open line first. -/
def Video.startLine (v : Video) (p : PortId) (st : StreamId) (i : SlotId) (q : Seq) : Video :=
  (v.endLine p st i q).modInput p fun g =>
    { g with pixelCount := 0, burstsFormed := 0, packer := [], lineOpen := true }

/-- What a happening of a CAPTURING port with a bound stream and a target does; in every other state the port takes
no pixels and no line markers (R91). -/
def Video.whileCapturing (v : Video) (p : PortId) (f : StreamId → SlotId → Seq → Video) : Video :=
  match (v.input p).state, (v.input p).stream, (v.input p).target with
  | .capturing, some st, some (i, q) => f st i q
  | _, _, _ => v

/-- R91: INPUT_LINE_START. -/
def Video.inputLineStart (v : Video) (p : PortId) : Video := v.whileCapturing p fun st i q => v.startLine p st i q

/-- R93: INPUT_LINE_END. -/
def Video.inputLineEnd (v : Video) (p : PortId) : Video := v.whileCapturing p fun st i q => v.endLine p st i q

/-- R91: PIXEL; a valid pixel with no line open is ignored. -/
def Video.inputPixel (v : Video) (p : PortId) (data : BitVec 32) : Video :=
  v.whileCapturing p fun st i q => if (v.input p).lineOpen then v.takePixel p st i q data else v

/-! ## Frame end (R94) -/

/-- R42: a STOPPING stream becomes OPEN. -/
def Video.endOfStop (v : Video) (st : StreamId) : Video :=
  v.modStream st fun x => if x.state = .stopping then { x with state := .opened } else x

/-- R94, steps 1 to 5. -/
def Video.closeFrame (v : Video) (p : PortId) (flying : List Transfer) (st : StreamId) (i : SlotId) (q : Seq) : Video :=
  let v := v.endLine p st i q
  let v := if (v.input p).linesReceived < (v.stream st).height then v.markDamage i q .shortFrame else v
  let v := v.endClaim i q
  let v := v.modInput p fun g =>
    ({ (g.modFrame i q fun e => { e with ended := true }) with target := none }).beginFlush
  v.completeFrames p flying

/-- R94, R96, R97: the port goes to BOUND, its loss timer stops and the stop ends (R42). -/
def Video.endStopAt (v : Video) (p : PortId) (st : StreamId) : Video :=
  (v.modInput p fun g => { g with state := .bound, lossTimer := none, stopPending := false }).endOfStop st

/-- R94: INPUT_FRAME_END. -/
def Video.inputFrameEnd (v : Video) (p : PortId) (flying : List Transfer) : Video :=
  v.whileCapturing p fun st i q =>
    let stop := (v.input p).stopPending
    let v := v.closeFrame p flying st i q
    if stop then v.endStopAt p st else v.modInput p fun g => { g with state := .armed }

/-! ## Frame start (R95, R96) -/

/-- R95: the line state of a new frame. At a loss timeout (R97) and at an unbind (R102) the same fields are cleared, line
index and lines received among them: the spec does not list what its line state is there (DESIGN CHOICE, log 22). -/
def Ingest.clearLine (g : Ingest) : Ingest :=
  { g with
    lineOpen := false
    lineIndex := 0
    linesReceived := 0
    pixelCount := 0
    burstsFormed := 0
    packer := [] }

/-- R95: the take found a target. -/
def Ingest.capture (g : Ingest) (i : SlotId) (q : Seq) : Ingest :=
  { g.clearLine with
    state := .capturing
    target := some (i, q)
    frames := g.frames ++ [{ slot := i, seq := q, ended := false, commitPoint := 0, lines := [] }] }

/-- R95, steps 3 and 4: the timer restarts and a take is made. A take that finds no target is reported (R36). A take
refused because the stream still has a FILLING slot changes nothing (R10, log 32). -/
def Video.newFrame (v : Video) (p : PortId) (st : StreamId) : Video :=
  let v := v.modInput p fun g => { g with lossTimer := some 0 }
  match v.take st with
  | (v, .taken i q) => v.modInput p fun g => g.capture i q
  | (v, .noTarget) =>
    let v := (v.modStream st fun x => { x with overflowed := satInc x.overflowed }).raiseStream st .overflow
    v.modInput p fun g => { g with state := .skipping }
  | (v, .refused) => v

/-- R128: the frame start of a RUNNING stream is offered to the lock units, after the take (log 15). -/
def Video.offerIfRunning (v : Video) (running : Bool) (st : StreamId) : Video :=
  if running then v.offerReference st else v

def Ingest.countFrame (g : Ingest) : Ingest := { g with framesSeen := satInc g.framesSeen }

/-- R95, R96: INPUT_FRAME_START. -/
def Video.inputFrameStart (v : Video) (p : PortId) (flying : List Transfer) : Video :=
  let g := v.input p
  match g.state, g.stream with
  | .unbound, _ => v
  | .bound, _ => v.modInput p Ingest.countFrame
  | .armed, some st | .skipping, some st =>
    let running := (v.stream st).state = .running
    ((v.modInput p Ingest.countFrame).newFrame p st).offerIfRunning running st
  | .lost, some st =>
    let running := (v.stream st).state = .running
    (((v.modInput p Ingest.countFrame).raiseStream st .inputBack).newFrame p st).offerIfRunning running st
  | .capturing, some st =>
    let running := (v.stream st).state = .running
    let v := v.modInput p Ingest.countFrame
    let v := match g.target with
      | some (i, q) => v.closeFrame p flying st i q
      | none => v
    if g.stopPending then v.endStopAt p st else (v.newFrame p st).offerIfRunning running st
  | _, none => v

/-! ## Frames that end without completing (R97, R102) -/

/-- R102: the target's bursts and frame entry are removed, the target becomes none and the line state is cleared, and
the tail flush begins when the FIFO is not empty (R97, R99, log 22). -/
def Ingest.dropTarget (g : Ingest) : Ingest :=
  match g.target with
  | none => g
  | some (i, q) =>
    ({ g.clearLine with
        target := none
        fifo := g.fifo.filter fun b => !(b.tag.slot == i && b.tag.seq == q)
        frames := g.frames.filter fun e => !e.isFor i q }).beginFlush.settleFifo

/-- R97: the loss timer of the port is running. -/
def Ingest.timing (g : Ingest) : Bool :=
  g.lossTimer.isSome
    && (g.state == .armed || g.state == .capturing || g.state == .skipping)

/-- R97: the loss timeout, steps 1 to 4. -/
def Video.lossTimeout (v : Video) (p : PortId) : Video :=
  let g := v.input p
  match g.timing, g.stream with
  | true, some st =>
    let running := (v.stream st).state = .running
    let v := match g.state, g.target with
      | .capturing, some (i, q) => (v.abandonClaim i q).modInput p Ingest.dropTarget
      | _, _ => v
    let v := (v.modStream st fun x => { x with lost := satInc x.lost }).raiseStream st .inputLost
    if g.stopPending then v.endStopAt p st
    else
      let v := v.modInput p fun g => { g with state := .lost, lossTimer := none }
      if running then v.loseReference st else v
  | _, _ => v

/-- R103: the elapsed time has reached the loss timeout. -/
def Ingest.lossDue (g : Ingest) : Bool :=
  match g.lossTimer with
  | some t => g.lossTimeout ≤ t && g.timing
  | none => false

/-- One millisecond at one port: its timer counts, and the loss timeout occurs when it is due (log 2). -/
def Video.tickInput (v : Video) (p : PortId) : Video :=
  let v := if (v.input p).timing then v.modInput p fun g => { g with lossTimer := g.lossTimer.map (· + 1) } else v
  if (v.input p).lossDue then v.lossTimeout p else v

/-! ## Binding (R90, R102) -/

/-- R90: bind. -/
def Ingest.bind (g : Ingest) (st : StreamId) : Ingest :=
  { g with state := .bound, stream := some st, stopPending := false }

/-- R90: arm. -/
def Ingest.arm (g : Ingest) : Ingest :=
  if g.state = .bound then { g with state := .armed, lossTimer := some 0 } else g

/-- R90: disarm; from CAPTURING the target's bursts are dropped. -/
def Ingest.disarm (g : Ingest) : Ingest :=
  let g := if g.state = .capturing then g.dropTarget else g
  { g with state := .bound, lossTimer := none, stopPending := false }

/-- R90: disarm after the frame in progress. -/
def Ingest.disarmAfterFrame (g : Ingest) : Ingest :=
  if g.state = .capturing then { g with stopPending := true } else g.disarm

/-- R102: unbind. The transfers in flight become orphans beside those of an earlier unbind (log 10). -/
def Ingest.unbind (g : Ingest) : Ingest :=
  { g.clearLine with
    state := .unbound
    stream := none
    stopPending := false
    target := none
    fifo := []
    frames := []
    orphans := g.orphans + g.inFlight
    inFlight := 0
    tailFlush := false
    run := false
    lossTimer := none }

/-- R32: a claim of the stream table on the source port of a stream; a HOST stream has no port. -/
def Video.onSource (v : Video) (st : StreamId) (f : Ingest → Ingest) : Video :=
  match (v.stream st).source with
  | some (.input p) => v.modInput p f
  | some .host | none => v

/-! ## Write completions (R100) -/

/-- R100: a write completion returns to the port with its tag; `flying` is the list without the completed transfer. -/
def Video.writeCompleted (v : Video) (p : PortId) (flying : List Transfer) (t : BurstTag) : Video :=
  if 0 < (v.input p).orphans then v.modInput p fun g => { g with orphans := g.orphans - 1 }
  else
    let v := v.modInput p fun g => { g with inFlight := g.inFlight - 1 }
    match (v.input p).frame? t.slot t.seq with
    | none => v
    | some _ =>
      let v := v.modInput p fun g =>
        g.modFrame t.slot t.seq fun e => e.modLine t.line fun r => { r with outstanding := r.outstanding - 1 }
      (v.advanceCommit p t.slot t.seq).completeFrames p flying

end Sys2Proof.Machine
end

