-- ==== Sys2Proof/Machine/Arbiter.lean ====
section
/-! DEFINITION. The memory channel and arbiter (Chapter 8): the requests standing (R143), grants (R144 to R146), and
the delivery of a completed transfer to its requester (R147). -/

namespace Sys2Proof.Machine

def State.withVideo (s : State) (v : Video) : State := { s with video := v }
def State.modVideo (s : State) (f : Video → Video) : State := { s with video := f s.video }
def State.modChannel (s : State) (f : Channel → Channel) : State := { s with channel := f s.channel }
def State.modHost (s : State) (f : HostUnit → HostUnit) : State := { s with host := f s.host }
def State.modLink (s : State) (f : Link → Link) : State := { s with link := f s.link }

/-! ## Requests (R143) -/

/-- R115: the request of a scan-out port. -/
def Port.request (pt : Port) : Option ReqClass :=
  match pt.pendingReads with
  | [] => none
  | r :: _ => if r.line ≤ pt.emissionLine + pt.urgentLead then some .urgent else some .normal

/-- R151: the request of the host transfer unit. -/
def HostUnit.request (h : HostUnit) : Option ReqClass :=
  if h.state ≠ .idle ∧ !h.abort ∧ h.issued < h.spanBursts then some .background else none

/-- R143: requests are presented only while the channel is READY and no soft reset is draining. -/
def Channel.serving (c : Channel) : Bool := c.cal == .ready && !c.draining

/-- The request of the n-th requester of the cyclic order IN0 to IN3, OUT0 to OUT3 (R145). -/
def State.requestOf (s : State) (r : Fin 8) : Option ReqClass :=
  if s.channel.serving then
    if h : r.val < 4 then (s.video.input ⟨r.val, h⟩).request
    else (s.video.port ⟨r.val - 4, by omega⟩).request
  else none

/-- The request of HOST. -/
def State.hostRequest (s : State) : Option ReqClass := if s.channel.serving then s.host.request else none

/-! ## Grants (R144 to R146) -/

/-- R145: the first requester of a class from the pointer on, round the cyclic order. -/
def State.roundRobin (s : State) (ptr : Fin 8) (c : ReqClass) : Option (Fin 8) :=
  ((List.finRange 8).map (ptr + ·)).find? fun r => s.requestOf r == some c

/-- R144: the requester the arbiter chooses, in class order. -/
inductive Chosen where
  | requester (r : Fin 8) (c : ReqClass)
  | host
  deriving DecidableEq, Repr

/-- R144: a grant takes place when the channel is READY, no drain stands, fewer than 4 transfers are in flight and a
request stands; the answer is whom it serves. -/
def State.choose (s : State) : Option Chosen :=
  if s.channel.serving && s.channel.inFlight.length < Config.maxInFlight then
    match s.roundRobin s.channel.urgentPtr .urgent with
    | some r => some (.requester r .urgent)
    | none =>
      match s.roundRobin s.channel.normalPtr .normal with
      | some r => some (.requester r .normal)
      | none => if s.hostRequest.isSome then some .host else none
  else none

/-- R146: an issued transfer goes to the tail of the in-flight list. -/
def State.issue (s : State) (t : Transfer) : State :=
  s.modChannel fun c => { c with inFlight := c.inFlight ++ [t] }

/-- R98, R146: the head entry of the write FIFO is issued. -/
def State.grantInput (s : State) (p : PortId) : State :=
  match (s.video.input p).fifo with
  | [] => s
  | b :: rest =>
    let addr := s.video.burstAddr b.tag.slot b.tag.line b.tag.burst
    (s.modVideo fun v =>
      v.modInput p fun g => { g with fifo := rest, inFlight := g.inFlight + 1 }.settleFifo).issue
      (.ingestWrite p addr b.tag b.data)

/-- R115: what a read resolves to at its grant. -/
inductive Resolution where
  | issue (slot : SlotId)
  | drop
  | dropBorder
  deriving DecidableEq, Repr

/-- R115: the read against the window's current slot at the moment of the grant. -/
def Video.resolveRead (v : Video) (p : PortId) (r : PendingRead) : Resolution :=
  match (v.window (winOf p r.layer)).current with
  | none => .drop
  | some c =>
    if c = r.slot then .issue c
    else if ((v.slot c).state = .ready ∨ (v.slot c).state = .detached)
        ∧ r.srcLine < (v.slot c).committed then .issue c
    else .dropBorder

/-- R115, R146: the head read of the pending list is resolved and issued, or dropped without issue. -/
def State.grantPort (s : State) (p : PortId) : State :=
  match (s.video.port p).pendingReads with
  | [] => s
  | r :: rest =>
    let v := s.video.modPort p fun pt => { pt with pendingReads := rest }
    match s.video.resolveRead p r, (s.video.port p).storeOf r.line with
    | .issue c, some k =>
      let tag : ReadTag :=
        { frame := (s.video.port p).frameNumber, line := r.line, store := k, layer := r.layer, burst := r.burst }
      (s.withVideo (v.modPort p fun pt => { pt with inFlight := pt.inFlight + 1 })).issue
        (.portRead p (s.video.burstAddr c r.srcLine r.burst) tag)
    | .dropBorder, _ => s.withVideo (v.modPort p fun pt => pt.setMark r.line r.layer .border)
    | _, _ => s.withVideo v

/-- R151: burst k = issued of the span is issued. -/
def State.grantHost (s : State) : State :=
  let k := s.host.issued
  let addr := s.host.startAddr + k * 64
  let t : Transfer :=
    if s.host.state = .writing then .hostWrite addr k (s.host.buffer.toList.getD k (Vector.replicate 64 0))
    else .hostRead addr k
  (s.modHost fun h => { h with issued := h.issued + 1 }).issue t

/-- R146: the transfer of a requester is issued. -/
def State.serve (s : State) (r : Fin 8) : State :=
  if h : r.val < 4 then s.grantInput ⟨r.val, h⟩ else s.grantPort ⟨r.val - 4, by omega⟩

/-- R145, R146: the grant counter of the class and its pointer. -/
def Channel.countGrant (c : Channel) : Chosen → Channel
  | .requester r .urgent => { c with urgentGrants := satInc c.urgentGrants, urgentPtr := r + 1 }
  | .requester r .normal => { c with normalGrants := satInc c.normalGrants, normalPtr := r + 1 }
  | .requester _ .background => c
  | .host => { c with backgroundGrants := satInc c.backgroundGrants }

/-- R144: one grant; nothing when the conditions do not hold. -/
def State.grantOnce (s : State) : State :=
  match s.choose with
  | none => s
  | some (.requester r c) => (s.serve r).modChannel fun ch => ch.countGrant (.requester r c)
  | some .host => s.grantHost.modChannel fun ch => ch.countGrant .host

/-! ## Delivery (R147) -/

/-- R116: a returned read is placed. -/
def Port.accepts (pt : Port) (t : ReadTag) : Bool :=
  pt.on && t.frame == pt.frameNumber && pt.stores[t.store].line == some t.line
    && pt.lineCounter < pt.topBlank + t.line

/-- R116: a read returns to its port. -/
def Port.readReturned (pt : Port) (t : ReadTag) (d : Burst) : Port :=
  let pt := { pt with inFlight := pt.inFlight - 1 }
  if pt.accepts t then
    pt.modStore t.store fun ls => ls.modPart t.layer fun part => { part with bursts := part.bursts ++ [(t.burst, d)] }
  else pt

/-- R151: a completion reaches the host transfer unit; the data of a read is placed unless abort is yes. -/
def HostUnit.burstCompleted (h : HostUnit) (k : Nat) (data : Option Burst) : HostUnit :=
  let h := { h with completed := h.completed + 1 }
  match data with
  | some d => if hk : k < 64 then (if h.abort then h else { h with buffer := h.buffer.set k d }) else h
  | none => h

/-- The address of a transfer. -/
def Transfer.addr : Transfer → Nat
  | .ingestWrite _ a _ _ => a
  | .portRead _ a _ => a
  | .hostWrite a _ _ => a
  | .hostRead a _ => a

/-- R142: what a transfer does to frame memory when it executes. -/
def Transfer.effect (t : Transfer) (m : List Host.Cell) : List Host.Cell :=
  match t with
  | .ingestWrite _ a _ d => memWriteBurst m a d
  | .hostWrite a _ d => memWriteBurst m a d
  | .portRead .. | .hostRead .. => m

/-- R100, R106, R125, R150: while a soft reset drains, a completion is discarded and only leaves the requester's
count. -/
def Video.discardCompletion (v : Video) : Transfer → Video
  | .ingestWrite p _ _ _ =>
    v.modInput p fun g =>
      if 0 < g.orphans then { g with orphans := g.orphans - 1 } else { g with inFlight := g.inFlight - 1 }
  | .portRead p _ _ => v.modPort p fun pt => { pt with inFlight := pt.inFlight - 1 }
  | .hostWrite .. | .hostRead .. => v

/-- R147: a completion delivered to its requester; `s` has the transfer removed from the list and executed. -/
def State.deliver (s : State) : Transfer → State
  | .ingestWrite p _ tag _ =>
    s.modVideo (resuming fun v => v.writeCompleted p s.channel.inFlight tag)
  | .portRead p a tag => s.modVideo fun v => v.modPort p fun pt => pt.readReturned tag (memReadBurst s.mem a)
  | .hostWrite _ k _ => s.modHost fun h => h.burstCompleted k none
  | .hostRead a k => s.modHost fun h => h.burstCompleted k (some (memReadBurst s.mem a))

/-- R142, R147: the head transfer has executed: it leaves the list, acts on frame memory, and is delivered, or
discarded while a soft reset drains (R150). -/
def State.completeHead (s : State) (t : Transfer) (rest : List Transfer) : State :=
  let s := { s.modChannel (fun c => { c with inFlight := rest }) with mem := t.effect s.mem }
  if s.channel.draining then s.modVideo fun v => v.discardCompletion t else s.deliver t

end Sys2Proof.Machine
end

