-- ==== Sys2Proof/Machine/Operands.lean ====
section
/-! DEFINITION. The operands of the host commands: byte order (R183), the argument layouts of R184 with their decoder
and encoder, the numbers of enumerated values, and the response layouts' common pieces. -/

namespace Sys2Proof.Machine

/-! ## Byte order (R183) -/

/-- A two-byte value from its bytes, low byte first. -/
def le16 (lo hi : Byte) : BitVec 16 := hi ++ lo

/-- A four-byte value from its bytes, lowest byte first. -/
def le32 (b0 b1 b2 b3 : Byte) : BitVec 32 := b3 ++ b2 ++ b1 ++ b0

/-- The bytes of a two-byte value, low byte first. -/
def bytes16 (x : BitVec 16) : List Byte := [x.extractLsb' 0 8, x.extractLsb' 8 8]

/-- The bytes of a four-byte value, lowest byte first. -/
def bytes32 (x : BitVec 32) : List Byte :=
  [x.extractLsb' 0 8, x.extractLsb' 8 8, x.extractLsb' 16 8, x.extractLsb' 24 8]

/-- A number as one byte, as two bytes. -/
def natByte (n : Nat) : Byte := BitVec.ofNat 8 n
def natBytes16 (n : Nat) : List Byte := bytes16 (BitVec.ofNat 16 n)

/-- A yes or no field of a query result: yes 1 and no 0. The field order of section 11.9 gives its size only, and the
record tables name "yes" before "no" (DEDUCED from the bits of the slot record, R176 and R178, log 37). The state of a
port is OFF 0 and ON 1 (R107, R183). -/
def boolByte (b : Bool) : Byte := if b then 1 else 0

/-- R183: a slot, stream, window or port field that is none is FFh. -/
def optByte (x : Option (Fin n)) : Byte :=
  match x with
  | some i => natByte i.val
  | none => 0xFF

/-! ## The 34 host commands (R184) -/

/-- A host command with its arguments as the frame carries them; STREAM_STOP has its mode. -/
inductive HostCmd where
  | slotBase (slot : Byte) (base : BitVec 16)
  | slotQuery (slot : Byte)
  | pin (selector arg : Byte) (seq : BitVec 32)
  | unpin (slot : Byte)
  | streamOpen (stream source bpp : Byte) (width height pitch : BitVec 16) (delivery mask : Byte) (pool : List Byte)
  | streamStart (stream : Byte)
  | streamStop (stream mode : Byte)
  | streamClose (stream : Byte)
  | poolGrow (stream slot : Byte)
  | poolShrink (stream slot : Byte)
  | streamQuery (stream option : Byte)
  | windowSet (window stream : Byte) (x0 y0 w h dx dy : BitVec 16) (hrep vrep guard : Byte)
  | cadenceSet (window : Byte) (counts : List Byte)
  | windowClear (window : Byte)
  | windowQuery (window option : Byte)
  | ingestSet (port lossTimeout normalMark urgentMark : Byte)
  | ingestQuery (port option : Byte)
  | portSet (port bpp : Byte) (activeWidth activeLines : BitVec 16) (topBlank : Byte)
      (totalLines lineLength : BitVec 16) (border underrun : BitVec 32) (urgentLead : Byte)
  | portOn (port : Byte)
  | portOff (port : Byte)
  | portQuery (port option : Byte)
  | lockSet (port stream n w d : Byte)
  | lockClear (port : Byte)
  | memoryQuery (option : Byte)
  | frameBegin (stream : Byte)
  | spanWrite (stream : Byte) (line offset length : BitVec 16) (data : List Byte)
  | framePublish (stream : Byte)
  | frameAbandon (stream : Byte)
  | spanRead (slot : Byte) (line offset length : BitVec 16)
  | attnRead
  | attnClear (entry causes : Byte)
  | attnMask (entry causes : Byte)
  | nop (payload : List Byte)
  | reset
  deriving DecidableEq, Repr

/-- R184: the code of a command. -/
def HostCmd.code : HostCmd → Byte
  | .slotBase .. => 0x01
  | .slotQuery .. => 0x02
  | .pin .. => 0x03
  | .unpin .. => 0x04
  | .streamOpen .. => 0x10
  | .streamStart .. => 0x11
  | .streamStop .. => 0x12
  | .streamClose .. => 0x13
  | .poolGrow .. => 0x14
  | .poolShrink .. => 0x15
  | .streamQuery .. => 0x16
  | .windowSet .. => 0x20
  | .cadenceSet .. => 0x21
  | .windowClear .. => 0x22
  | .windowQuery .. => 0x23
  | .ingestSet .. => 0x30
  | .ingestQuery .. => 0x31
  | .portSet .. => 0x40
  | .portOn .. => 0x41
  | .portOff .. => 0x42
  | .portQuery .. => 0x43
  | .lockSet .. => 0x48
  | .lockClear .. => 0x49
  | .memoryQuery .. => 0x50
  | .frameBegin .. => 0x60
  | .spanWrite .. => 0x61
  | .framePublish .. => 0x62
  | .frameAbandon .. => 0x63
  | .spanRead .. => 0x64
  | .attnRead => 0x70
  | .attnClear .. => 0x71
  | .attnMask .. => 0x72
  | .nop .. => 0x7E
  | .reset => 0x7F

/-- R184: the payload of a command. -/
def HostCmd.payload : HostCmd → List Byte
  | .slotBase slot base => slot :: bytes16 base
  | .slotQuery slot => [slot]
  | .pin selector arg seq => selector :: arg :: bytes32 seq
  | .unpin slot => [slot]
  | .streamOpen stream source bpp width height pitch delivery mask pool =>
    [stream, source, bpp] ++ bytes16 width ++ bytes16 height ++ bytes16 pitch ++ [delivery, mask] ++ pool
  | .streamStart stream => [stream]
  | .streamStop stream mode => [stream, mode]
  | .streamClose stream => [stream]
  | .poolGrow stream slot => [stream, slot]
  | .poolShrink stream slot => [stream, slot]
  | .streamQuery stream option => [stream, option]
  | .windowSet window stream x0 y0 w h dx dy hrep vrep guard =>
    [window, stream] ++ bytes16 x0 ++ bytes16 y0 ++ bytes16 w ++ bytes16 h ++ bytes16 dx ++ bytes16 dy
      ++ [hrep, vrep, guard]
  | .cadenceSet window counts => window :: counts
  | .windowClear window => [window]
  | .windowQuery window option => [window, option]
  | .ingestSet port lossTimeout normalMark urgentMark => [port, lossTimeout, normalMark, urgentMark]
  | .ingestQuery port option => [port, option]
  | .portSet port bpp activeWidth activeLines topBlank totalLines lineLength border underrun urgentLead =>
    [port, bpp] ++ bytes16 activeWidth ++ bytes16 activeLines ++ [topBlank] ++ bytes16 totalLines
      ++ bytes16 lineLength ++ bytes32 border ++ bytes32 underrun ++ [urgentLead]
  | .portOn port => [port]
  | .portOff port => [port]
  | .portQuery port option => [port, option]
  | .lockSet port stream n w d => [port, stream, n, w, d]
  | .lockClear port => [port]
  | .memoryQuery option => [option]
  | .frameBegin stream => [stream]
  | .spanWrite stream line offset length data =>
    [stream] ++ bytes16 line ++ bytes16 offset ++ bytes16 length ++ data
  | .framePublish stream => [stream]
  | .frameAbandon stream => [stream]
  | .spanRead slot line offset length => [slot] ++ bytes16 line ++ bytes16 offset ++ bytes16 length
  | .attnRead => []
  | .attnClear entry causes => [entry, causes]
  | .attnMask entry causes => [entry, causes]
  | .nop payload => payload
  | .reset => []

/-- The 34 command codes of R184. -/
def knownCodes : List Byte :=
  [0x01, 0x02, 0x03, 0x04, 0x10, 0x11, 0x12, 0x13, 0x14, 0x15, 0x16, 0x20, 0x21, 0x22, 0x23, 0x30, 0x31,
    0x40, 0x41, 0x42, 0x43, 0x48, 0x49, 0x50, 0x60, 0x61, 0x62, 0x63, 0x64, 0x70, 0x71, 0x72, 0x7E, 0x7F]

/-- What rows 2 to 4 of R173 make of a code and a payload. -/
inductive Parsed where
  | badCommand
  | badLength
  | cmd (c : HostCmd)
  deriving DecidableEq, Repr

/-- R173, R184: the arguments of the slot and stream commands. -/
def parseCustody (code : Byte) (payload : List Byte) : Parsed :=
  if code = 0x01 then
    match payload with
    | [slot, b0, b1] => .cmd (.slotBase slot (le16 b0 b1))
    | _ => .badLength
  else if code = 0x02 then
    match payload with
    | [slot] => .cmd (.slotQuery slot)
    | _ => .badLength
  else if code = 0x03 then
    match payload with
    | [selector, arg, q0, q1, q2, q3] => .cmd (.pin selector arg (le32 q0 q1 q2 q3))
    | _ => .badLength
  else if code = 0x04 then
    match payload with
    | [slot] => .cmd (.unpin slot)
    | _ => .badLength
  else if code = 0x10 then
    match payload with
    | stream :: source :: bpp :: w0 :: w1 :: h0 :: h1 :: p0 :: p1 :: delivery :: mask :: pool =>
      .cmd (.streamOpen stream source bpp (le16 w0 w1) (le16 h0 h1) (le16 p0 p1) delivery mask pool)
    | _ => .badLength
  else if code = 0x11 then
    match payload with
    | [stream] => .cmd (.streamStart stream)
    | _ => .badLength
  else if code = 0x12 then
    match payload with
    | [stream, mode] => .cmd (.streamStop stream mode)
    | _ => .badLength
  else if code = 0x13 then
    match payload with
    | [stream] => .cmd (.streamClose stream)
    | _ => .badLength
  else if code = 0x14 then
    match payload with
    | [stream, slot] => .cmd (.poolGrow stream slot)
    | _ => .badLength
  else if code = 0x15 then
    match payload with
    | [stream, slot] => .cmd (.poolShrink stream slot)
    | _ => .badLength
  else
    match payload with
    | [stream, option] => .cmd (.streamQuery stream option)
    | _ => .badLength

/-- R173, R184: the arguments of the window, ingest, port and lock commands. -/
def parseVideo (code : Byte) (payload : List Byte) : Parsed :=
  if code = 0x20 then
    match payload with
    | [window, stream, x0, x1, y0, y1, w0, w1, h0, h1, dx0, dx1, dy0, dy1, hrep, vrep, guard] =>
      .cmd (.windowSet window stream (le16 x0 x1) (le16 y0 y1) (le16 w0 w1) (le16 h0 h1) (le16 dx0 dx1)
        (le16 dy0 dy1) hrep vrep guard)
    | _ => .badLength
  else if code = 0x21 then
    match payload with
    | window :: counts => .cmd (.cadenceSet window counts)
    | _ => .badLength
  else if code = 0x22 then
    match payload with
    | [window] => .cmd (.windowClear window)
    | _ => .badLength
  else if code = 0x23 then
    match payload with
    | [window, option] => .cmd (.windowQuery window option)
    | _ => .badLength
  else if code = 0x30 then
    match payload with
    | [port, lossTimeout, normalMark, urgentMark] => .cmd (.ingestSet port lossTimeout normalMark urgentMark)
    | _ => .badLength
  else if code = 0x31 then
    match payload with
    | [port, option] => .cmd (.ingestQuery port option)
    | _ => .badLength
  else if code = 0x40 then
    match payload with
    | [port, bpp, w0, w1, l0, l1, topBlank, t0, t1, n0, n1, b0, b1, b2, b3, u0, u1, u2, u3, urgentLead] =>
      .cmd (.portSet port bpp (le16 w0 w1) (le16 l0 l1) topBlank (le16 t0 t1) (le16 n0 n1) (le32 b0 b1 b2 b3)
        (le32 u0 u1 u2 u3) urgentLead)
    | _ => .badLength
  else if code = 0x41 then
    match payload with
    | [port] => .cmd (.portOn port)
    | _ => .badLength
  else if code = 0x42 then
    match payload with
    | [port] => .cmd (.portOff port)
    | _ => .badLength
  else if code = 0x43 then
    match payload with
    | [port, option] => .cmd (.portQuery port option)
    | _ => .badLength
  else if code = 0x48 then
    match payload with
    | [port, stream, n, w, d] => .cmd (.lockSet port stream n w d)
    | _ => .badLength
  else
    match payload with
    | [port] => .cmd (.lockClear port)
    | _ => .badLength

/-- R173, R184: the arguments of the memory, host frame, attention and link commands. -/
def parseHost (code : Byte) (payload : List Byte) : Parsed :=
  if code = 0x50 then
    match payload with
    | [option] => .cmd (.memoryQuery option)
    | _ => .badLength
  else if code = 0x60 then
    match payload with
    | [stream] => .cmd (.frameBegin stream)
    | _ => .badLength
  else if code = 0x61 then
    match payload with
    | stream :: l0 :: l1 :: o0 :: o1 :: n0 :: n1 :: data =>
      .cmd (.spanWrite stream (le16 l0 l1) (le16 o0 o1) (le16 n0 n1) data)
    | _ => .badLength
  else if code = 0x62 then
    match payload with
    | [stream] => .cmd (.framePublish stream)
    | _ => .badLength
  else if code = 0x63 then
    match payload with
    | [stream] => .cmd (.frameAbandon stream)
    | _ => .badLength
  else if code = 0x64 then
    match payload with
    | [slot, l0, l1, o0, o1, n0, n1] => .cmd (.spanRead slot (le16 l0 l1) (le16 o0 o1) (le16 n0 n1))
    | _ => .badLength
  else if code = 0x70 then
    match payload with
    | [] => .cmd .attnRead
    | _ => .badLength
  else if code = 0x71 then
    match payload with
    | [entry, causes] => .cmd (.attnClear entry causes)
    | _ => .badLength
  else if code = 0x72 then
    match payload with
    | [entry, causes] => .cmd (.attnMask entry causes)
    | _ => .badLength
  else if code = 0x7E then .cmd (.nop payload)
  else
    match payload with
    | [] => .cmd .reset
    | _ => .badLength

/-- R173, rows 2 to 4: a code that is none of the 34, a payload of the wrong size, or the command. -/
def parseCmd (code : Byte) (payload : List Byte) : Parsed :=
  if code ∈ knownCodes then
    if code.toNat < 0x20 then parseCustody code payload
    else if code.toNat < 0x50 then parseVideo code payload
    else parseHost code payload
  else .badCommand

/-! ## Arguments as numbers of records -/

/-- A record number from its byte; none when it exceeds the last record. -/
def recordNumber (n : Nat) (b : Byte) : Option (Fin n) := if h : b.toNat < n then some ⟨b.toNat, h⟩ else none

def slotOf (b : Byte) : Option SlotId := recordNumber 64 b
def streamOf (b : Byte) : Option StreamId := recordNumber 8 b
def windowOf (b : Byte) : Option WindowId := recordNumber 16 b
def portNumber (b : Byte) : Option PortId := recordNumber 4 b
def entryOf (b : Byte) : Option EntryId := recordNumber 29 b

/-- R183: sources IN0 0 to IN3 3 and HOST 4. -/
def sourceOf (b : Byte) : Option Source :=
  match portNumber b with
  | some p => some (.input p)
  | none => if b = 4 then some .host else none

/-- R183: delivery NEWEST 0 and ORDERED 1. -/
def deliveryOf (b : Byte) : Option Delivery := if b = 0 then some .newest else if b = 1 then some .ordered else none

/-- R183: options KEEP 0 and CLEAR 1; the answer is true for CLEAR. -/
def optionOf (b : Byte) : Option Bool := if b = 0 then some false else if b = 1 then some true else none

/-! ## Numbers of enumerated values (R183, R185) -/

def SlotState.number : SlotState → Byte
  | .spare => 0
  | .empty => 1
  | .filling => 2
  | .completing => 3
  | .ready => 4
  | .detached => 5

def StreamState.number : StreamState → Byte
  | .closed => 0
  | .opened => 1
  | .running => 2
  | .stopping => 3
  | .draining => 4

def sourceNumber : Option Source → Byte
  | some (.input p) => natByte p.val
  | some .host => 4
  | none => 0xFF

def Delivery.number : Delivery → Byte
  | .newest => 0
  | .ordered => 1

def WindowState.number : WindowState → Byte
  | .clear => 0
  | .idle => 1
  | .showing => 2
  | .chasing => 3
  | .mismatch => 4

def IngestState.number : IngestState → Byte
  | .unbound => 0
  | .bound => 1
  | .armed => 2
  | .capturing => 3
  | .skipping => 4
  | .lost => 5

def LockState.number : LockState → Byte
  | .unlocked => 0
  | .acquiring => 1
  | .locked => 2
  | .holdover => 3

def CalState.number : CalState → Byte
  | .calibrating => 0
  | .ready => 1
  | .failed => 2

def requestNumber : Option ReqClass → Byte
  | none => 0
  | some .urgent => 1
  | some .normal => 2
  | some .background => 3

/-- R185. -/
def Status.code : Status → Byte
  | .ok => 0x00
  | .purged => 0x01
  | .aborted => 0x02
  | .badCommand => 0x03
  | .badLength => 0x04
  | .badArg => 0x05
  | .badState => 0x06
  | .noSlot => 0x07
  | .overlap => 0x08
  | .limit => 0x09
  | .notFound => 0x0A
  | .notReady => 0x0B

/-- R176, byte 3. -/
def LinkFault.number : LinkFault → Byte
  | .none => 0
  | .truncated => 1
  | .overlength => 2
  | .checksum => 3
  | .queueFull => 4
  | .unknownType => 5

/-! ## Frames (R172, R174) -/

/-- The sum of bytes modulo 256. -/
def byteSum (xs : List Byte) : Byte := xs.foldl (· + ·) 0

/-- R174: a response frame as bytes, with the checksum that makes all its bytes sum to 0. -/
def Response.bytes (r : Response) : List Byte :=
  let head := [r.tag, r.code, r.status.code] ++ natBytes16 r.payload.length ++ r.payload
  head ++ [-(byteSum head)]

/-- R172: a command frame as bytes. -/
def commandFrame (tag code : Byte) (payload : List Byte) : List Byte :=
  let head := [tag, code] ++ natBytes16 payload.length ++ payload
  head ++ [-(byteSum head)]

end Sys2Proof.Machine
end

