-- ==== Sys2Proof/Machine/SlotCommands.lean ====
section
/-! DEFINITION. What a taken command answers (R2, R173), and the slot commands: SLOT_BASE, SLOT_QUERY, PIN, UNPIN
(section 1.8). -/

namespace Sys2Proof.Machine

/-- R173, R177: a command ends in the happening in which it is taken, or is held as the executing command. -/
inductive Answer where
  | done (s : State) (status : Status) (payload : List Byte)
  | long (s : State)

/-- R2: a refused command changes no state and its response carries no payload. -/
def refuse (s : State) (status : Status) : Answer := .done s status []

/-- R2: a command carried out is answered OK. -/
def answerOk (s : State) (payload : List Byte) : Answer := .done s .ok payload

/-- R23: SLOT_BASE. -/
def cmdSlotBase (slot : Byte) (base : BitVec 16) (s : State) : Answer :=
  match slotOf slot with
  | none => refuse s .badArg
  | some i =>
    if (s.video.slot i).state ≠ .spare then refuse s .badState
    else answerOk (s.modVideo fun v => v.modSlot i fun sl => { sl with base := base }) []

/-- Section 11.9: the slot record of SLOT_QUERY, 17 bytes. -/
def slotRecord (i : SlotId) (sl : Slot) : List Byte :=
  let flags : Byte :=
    (if sl.leaving then 1 else 0) ||| (if sl.pinned then 2 else 0) ||| (if sl.seen then 4 else 0)
  [natByte i.val, sl.state.number, flags, optByte sl.owner]
    ++ bytes16 sl.base ++ bytes32 sl.seq ++ natBytes16 sl.committed ++ [sl.damage.setWidth 8]
    ++ bytes16 sl.readers ++ bytes16 sl.owed

/-- R24: SLOT_QUERY. -/
def cmdSlotQuery (slot : Byte) (s : State) : Answer :=
  match slotOf slot with
  | none => refuse s .badArg
  | some i => answerOk s (slotRecord i (s.video.slot i))

/-- The pool slots of a stream that are not leaving (R25, R45). -/
def Video.stayingCount (v : Video) (st : StreamId) : Nat :=
  ((v.stream st).pool.filter fun i => !(v.slot i).leaving).length

/-- The pinned slots of a stream's pool (R25, R45). -/
def Video.pinnedCount (v : Video) (st : StreamId) : Nat :=
  ((v.stream st).pool.filter fun i => (v.slot i).pinned).length

/-- R25, the last two rows of PIN and its effect, for the selected slot `i`. -/
def pinSlot (i : SlotId) (s : State) : Answer :=
  if (s.video.slot i).pinned then refuse s .badState
  else
    let full : Bool :=
      match (s.video.slot i).owner with
      | some st => s.video.stayingCount st ≤ s.video.pinnedCount st + 2
      | none => true
    if full then refuse s .limit
    else
      answerOk (s.modVideo fun v => v.modSlot i fun sl => { sl with pinned := true })
        (natByte i.val :: bytes32 (s.video.slot i).seq)

/-- R25: PIN with selector NEWEST. -/
def pinNewest (arg : Byte) (s : State) : Answer :=
  match streamOf arg with
  | none => refuse s .badArg
  | some st =>
    if !(s.video.stream st).live then refuse s .badState
    else
      match s.video.newestReady st with
      | none => refuse s .notFound
      | some i => pinSlot i s

/-- R25: PIN with selector SEQUENCE. -/
def pinSequence (arg : Byte) (seq : BitVec 32) (s : State) : Answer :=
  match streamOf arg with
  | none => refuse s .badArg
  | some st =>
    if !(s.video.stream st).live then refuse s .badState
    else if seq = 0 then refuse s .notFound
    else
      match s.video.readyWith st seq with
      | none => refuse s .notFound
      | some i => pinSlot i s

/-- R25: PIN with selector WINDOW. -/
def pinWindow (arg : Byte) (s : State) : Answer :=
  match windowOf arg with
  | none => refuse s .badArg
  | some w =>
    if (s.video.window w).state = .chasing then refuse s .badState
    else
      match (s.video.window w).current with
      | none => refuse s .notFound
      | some i => if (s.video.slot i).state ≠ .ready then refuse s .badState else pinSlot i s

/-- R25: PIN; R183 numbers the selectors NEWEST 0, SEQUENCE 1 and WINDOW 2. -/
def cmdPin (selector arg : Byte) (seq : BitVec 32) (s : State) : Answer :=
  if selector = 0 then pinNewest arg s
  else if selector = 1 then pinSequence arg seq s
  else if selector = 2 then pinWindow arg s
  else refuse s .badArg

/-- R26: UNPIN; the slot departs when R9 says so. -/
def cmdUnpin (slot : Byte) (s : State) : Answer :=
  match slotOf slot with
  | none => refuse s .badArg
  | some i =>
    if !(s.video.slot i).pinned then refuse s .badState
    else answerOk (s.modVideo fun v => (v.modSlot i fun sl => { sl with pinned := false }).tryDepart i) []

end Sys2Proof.Machine
end

