-- ==== Sys2Proof/Machine/StreamCommands.lean ====
section
/-! DEFINITION. The stream commands: STREAM_OPEN, STREAM_START, STREAM_STOP, STREAM_CLOSE, POOL_GROW, POOL_SHRINK and
STREAM_QUERY (section 2.8). -/

namespace Sys2Proof.Machine

/-- The channel is in service (R141). -/
def State.dramReady (s : State) : Bool := s.channel.cal == .ready

/-- STREAM_OPEN, fourth row: the source is an ingest port of another stream that is not CLOSED. -/
def Video.sourceTaken (v : Video) (st : StreamId) (src : Source) : Bool :=
  match src with
  | .input _ => allStreams.any fun x => x != st && (v.stream x).source == some src && (v.stream x).state != .closed
  | .host => false

/-- R37: the settings and starting values of an opened stream; the pool is filled by the join claims. -/
def Stream.opening (src : Source) (bpp width height pitch : Nat) (d : Delivery) (mask : DamageSet) : Stream :=
  { Stream.reset with
    state := .opened
    source := some src
    bpp := bpp
    width := width
    height := height
    pitch := pitch
    delivery := d
    discardMask := mask }

/-- R38: the reopen claim. -/
def Video.reopen (v : Video) (st : StreamId) : Video :=
  allWindows.foldl
    (fun v w => if (v.window w).stream = some st then v.modWindow w fun x => { x with readySeq := 0 } else v) v

/-- R37, R38: STREAM_OPEN carried out. -/
def Video.openStream (v : Video) (st : StreamId) (x : Stream) (pool : List SlotId) : Video :=
  let v := v.setStream st x
  let v := pool.foldl (fun v i => v.join st i) v
  (v.onSource st fun g => g.bind st).reopen st

/-- R37: STREAM_OPEN. -/
def cmdStreamOpen (stream source bpp : Byte) (width height pitch : BitVec 16) (delivery mask : Byte)
    (pool : List Byte) (s : State) : Answer :=
  match streamOf stream with
  | none => refuse s .badArg
  | some st =>
    if (s.video.stream st).state ≠ .closed then refuse s .badState
    else
      match sourceOf source with
      | none => refuse s .badArg
      | some src =>
        let b := bpp.toNat
        let w := width.toNat
        let h := height.toNat
        let pt := pitch.toNat
        if s.video.sourceTaken st src then refuse s .badState
        else if ¬(2 ≤ b ∧ b ≤ 4 ∧ 16 ≤ w ∧ w ≤ 4096 ∧ 16 ≤ h ∧ h ≤ 4096 ∧ 1 ≤ pt ∧ pt ≤ 1024 ∧ burstsOfLine w b ≤ pt) then
          refuse s .badArg
        else
          match deliveryOf delivery with
          | none => refuse s .badArg
          | some d =>
            let slots := pool.filterMap slotOf
            if 16 ≤ mask.toNat then refuse s .badArg
            else if ¬(2 ≤ pool.length ∧ pool.length ≤ 8 ∧ slots.length = pool.length ∧ slots.Nodup) then
              refuse s .badArg
            else if slots.any fun i => (s.video.slot i).state != .spare then refuse s .badState
            else if !s.video.regionCheck pt h slots then refuse s .overlap
            else if !s.dramReady then refuse s .notReady
            else
              answerOk
                (s.modVideo fun v => v.openStream st (Stream.opening src b w h pt d (mask.setWidth 4)) slots) []

/-- R39: STREAM_START. -/
def cmdStreamStart (stream : Byte) (s : State) : Answer :=
  match streamOf stream with
  | none => refuse s .badArg
  | some st =>
    if (s.video.stream st).state ≠ .opened then refuse s .badState
    else
      answerOk
        (s.modVideo fun v => (v.modStream st fun x => { x with state := .running }).onSource st Ingest.arm) []

/-- R132: a stream that leaves RUNNING is lost as a reference. -/
def Video.leaveRunning (v : Video) (st : StreamId) : Video :=
  if (v.stream st).state = .running then v.loseReference st else v

/-- R40: STREAM_STOP AFTER_FRAME carried out. -/
def Video.stopAfterFrame (v : Video) (st : StreamId) : Video :=
  let filling := (v.fillingOf st).isSome
  let v := v.leaveRunning st
  if filling then
    (v.modStream st fun x => { x with state := .stopping }).onSource st Ingest.disarmAfterFrame
  else (v.modStream st fun x => { x with state := .opened }).onSource st Ingest.disarm

/-- R41: STREAM_STOP NOW carried out: the FILLING slot is abandoned, then the port is disarmed. -/
def Video.stopNow (v : Video) (st : StreamId) : Video :=
  let v := v.leaveRunning st
  let v := match v.fillingOf st with
    | some i => v.abandon i
    | none => v
  (v.onSource st Ingest.disarm).modStream st fun x => { x with state := .opened }

/-- STREAM_STOP's refusal table for AFTER_FRAME, and R40. -/
def cmdStopAfterFrame (stream : Byte) (s : State) : Answer :=
  match streamOf stream with
  | none => refuse s .badArg
  | some st =>
    match (s.video.stream st).state with
    | .closed | .opened | .draining | .stopping => refuse s .badState
    | .running => answerOk (s.modVideo fun v => v.stopAfterFrame st) []

/-- STREAM_STOP's refusal table for NOW, and R41. -/
def cmdStopNow (stream : Byte) (s : State) : Answer :=
  match streamOf stream with
  | none => refuse s .badArg
  | some st =>
    match (s.video.stream st).state with
    | .closed | .opened | .draining => refuse s .badState
    | .running | .stopping => answerOk (s.modVideo (resuming fun v => v.stopNow st)) []

/-- STREAM_STOP; R183 numbers the modes AFTER_FRAME 0 and NOW 1. -/
def cmdStreamStop (stream mode : Byte) (s : State) : Answer :=
  if mode = 0 then cmdStopAfterFrame stream s
  else if mode = 1 then cmdStopNow stream s
  else refuse s .badArg

/-- R43, step 2: the FILLING and COMPLETING slots of the pool are abandoned, in pool order. -/
def Video.abandonPool (v : Video) (st : StreamId) : Video := (v.stream st).pool.foldl Video.abandon v

/-- R43: STREAM_CLOSE carried out, steps 1 to 5. -/
def Video.closeStream (v : Video) (st : StreamId) : Video :=
  let v := v.leaveRunning st
  let v := v.onSource st Ingest.unbind
  let v := ((v.abandonPool st).dischargeStream st).detach st
  v.modStream st fun x =>
    { x with state := if x.pool.isEmpty then .closed else .draining, fillTarget := none }

/-- R43: STREAM_CLOSE, answered with the resulting state and the number of slots left DETACHED. -/
def cmdStreamClose (stream : Byte) (s : State) : Answer :=
  match streamOf stream with
  | none => refuse s .badArg
  | some st =>
    match (s.video.stream st).state with
    | .closed | .draining => refuse s .badState
    | .opened | .running | .stopping =>
      let s' := s.modVideo (resuming fun v => v.closeStream st)
      let x := s'.video.stream st
      answerOk s' [x.state.number, natByte x.pool.length]

/-- R44: POOL_GROW. -/
def cmdPoolGrow (stream slot : Byte) (s : State) : Answer :=
  match streamOf stream, slotOf slot with
  | some st, some i =>
    let x := s.video.stream st
    if !x.live then refuse s .badState
    else if 8 ≤ x.pool.length then refuse s .limit
    else if (s.video.slot i).state ≠ .spare then refuse s .badState
    else if !s.video.regionCheck x.pitch x.height [i] then refuse s .overlap
    else if !s.dramReady then refuse s .notReady
    else answerOk (s.modVideo fun v => v.join st i) [natByte (x.pool.length + 1)]
  | _, _ => refuse s .badArg

/-- POOL_SHRINK's LIMIT row: the slots that would remain, the named one excepted. -/
def Video.shrinkLimit (v : Video) (st : StreamId) (i : SlotId) : Bool :=
  let others := ((v.stream st).pool.filter fun j => j != i && !(v.slot j).leaving).length
  !(v.slot i).leaving && (others < 2 || others < v.pinnedCount st + 2)

/-- R45: POOL_SHRINK; the outcomes are DEPARTED 0 and LEAVING 1 (R183). -/
def cmdPoolShrink (stream slot : Byte) (s : State) : Answer :=
  match streamOf stream, slotOf slot with
  | some st, some i =>
    let x := s.video.stream st
    if !x.live then refuse s .badState
    else if i ∉ x.pool then refuse s .notFound
    else if s.video.shrinkLimit st i then refuse s .limit
    else
      match s.video.leave st i with
      | (v, departed) => answerOk (s.withVideo v) [if departed then 0 else 1]
  | _, _ => refuse s .badArg

/-- Section 11.9: the fields of STREAM_QUERY. -/
def Video.streamFields (v : Video) (st : StreamId) : List Byte :=
  let x := v.stream st
  [x.state.number, sourceNumber x.source, natByte x.bpp]
    ++ natBytes16 x.width ++ natBytes16 x.height ++ natBytes16 x.pitch ++ natBytes16 x.lineBursts
    ++ [x.delivery.number, x.discardMask.setWidth 8] ++ bytes32 x.nextSeq ++ bytes32 x.newest
    ++ [optByte x.fillTarget]
    ++ bytes32 x.published ++ bytes32 x.discarded ++ bytes32 x.overflowed ++ bytes32 x.unseen
    ++ bytes32 x.abandoned ++ bytes32 x.lost ++ [natByte x.pool.length]
    ++ x.pool.flatMap fun i => [natByte i.val, (v.slot i).state.number, boolByte (v.slot i).leaving]

/-- R35: the six counters set to 0. -/
def Stream.clearCounters (x : Stream) : Stream :=
  { x with published := 0, discarded := 0, overflowed := 0, unseen := 0, abandoned := 0, lost := 0 }

/-- R46: STREAM_QUERY. -/
def cmdStreamQuery (stream option : Byte) (s : State) : Answer :=
  match streamOf stream, optionOf option with
  | some st, some clear =>
    answerOk (if clear then s.modVideo fun v => v.modStream st Stream.clearCounters else s) (s.video.streamFields st)
  | _, _ => refuse s .badArg

end Sys2Proof.Machine
end

