-- ==== Sys2Proof/Machine/WindowCommands.lean ====
section
/-! DEFINITION. The window commands: WINDOW_SET, CADENCE_SET, WINDOW_CLEAR and WINDOW_QUERY (section 3.9). -/

namespace Sys2Proof.Machine

/-- R69, R71: what WINDOW_SET and WINDOW_CLEAR take from a window before they write it. -/
def Video.freeWindow (v : Video) (w : WindowId) : Video := (v.giveUp w).dischargeAll w

/-- R69: the window bound to a stream with new placement. -/
def Window.rebind (x : Window) (st : StreamId) (x0 y0 w h dx dy hrep vrep guard : Nat) : Window :=
  { x with
    stream := some st
    x0 := x0
    y0 := y0
    w := w
    h := h
    dx := dx
    dy := dy
    hrep := hrep
    vrep := vrep
    guard := guard
    cursor := 0
    holdTarget := 0
    shown := 0
    readySeq := 0
    state := .idle }

/-- R69: WINDOW_SET. -/
def cmdWindowSet (window stream : Byte) (x0 y0 w h dx dy : BitVec 16) (hrep vrep guard : Byte) (s : State) : Answer :=
  match windowOf window, streamOf stream with
  | some k, some st =>
    let pt := s.video.port (portOf k)
    if 4095 < x0.toNat ∨ 4095 < y0.toNat ∨ ¬(1 ≤ w.toNat ∧ w.toNat ≤ 4096) ∨ ¬(1 ≤ h.toNat ∧ h.toNat ≤ 4096)
        ∨ 4096 < x0.toNat + w.toNat ∨ 4096 < y0.toNat + h.toNat then refuse s .badArg
    else if ¬((hrep = 1 ∨ hrep = 2) ∧ (vrep = 1 ∨ vrep = 2)) then refuse s .badArg
    else if !pt.timingValid then refuse s .badState
    else if pt.activeWidth ≤ dx.toNat ∨ pt.activeLines ≤ dy.toNat then refuse s .badArg
    else
      answerOk
        (s.modVideo (resuming fun v =>
          (v.freeWindow k).modWindow k fun x =>
            x.rebind st x0.toNat y0.toNat w.toNat h.toNat dx.toNat dy.toNat hrep.toNat vrep.toNat guard.toNat)) []
  | _, _ => refuse s .badArg

/-- R70: CADENCE_SET. -/
def cmdCadenceSet (window : Byte) (counts : List Byte) (s : State) : Answer :=
  match windowOf window with
  | none => refuse s .badArg
  | some k =>
    if ¬(1 ≤ counts.length ∧ counts.length ≤ 16) ∨ counts.any (fun c => c.toNat < 1 || 15 < c.toNat) then
      refuse s .badArg
    else
      answerOk
        (s.modVideo fun v => v.modWindow k fun x => { x with cadence := counts.map BitVec.toNat, cursor := 0 }) []

/-- R71: the window taken out of use; placement, cadence and counters are kept. -/
def Window.takeOut (x : Window) : Window :=
  { x with stream := none, cursor := 0, holdTarget := 0, shown := 0, readySeq := 0, state := .clear }

/-- R71: WINDOW_CLEAR; a CLEAR window is left as it is. -/
def cmdWindowClear (window : Byte) (s : State) : Answer :=
  match windowOf window with
  | none => refuse s .badArg
  | some k =>
    if (s.video.window k).state = .clear then answerOk s []
    else answerOk (s.modVideo (resuming fun v => (v.freeWindow k).modWindow k Window.takeOut)) []

/-- Section 11.9: the fields of WINDOW_QUERY. -/
def windowFields (x : Window) : List Byte :=
  [x.state.number, optByte x.stream] ++ natBytes16 x.x0 ++ natBytes16 x.y0 ++ natBytes16 x.w ++ natBytes16 x.h
    ++ natBytes16 x.dx ++ natBytes16 x.dy ++ [natByte x.hrep, natByte x.vrep, natByte x.guard, natByte x.cadence.length]
    ++ (List.range 16).map (fun k => natByte (x.cadence.getD k 0))
    ++ [natByte x.cursor, natByte x.holdTarget, natByte x.shown, optByte x.current, optByte x.fallback]
    ++ bytes32 x.readySeq ++ bytes32 x.latches ++ bytes32 x.repeats ++ bytes32 x.underrunLines
    ++ bytes32 x.chaseFaults

/-- R68, R72: the four counters set to 0. -/
def Window.clearCounters (x : Window) : Window :=
  { x with latches := 0, repeats := 0, underrunLines := 0, chaseFaults := 0 }

/-- R72: WINDOW_QUERY. -/
def cmdWindowQuery (window option : Byte) (s : State) : Answer :=
  match windowOf window, optionOf option with
  | some k, some clear =>
    answerOk (if clear then s.modVideo fun v => v.modWindow k Window.clearCounters else s)
      (windowFields (s.video.window k))
  | _, _ => refuse s .badArg

end Sys2Proof.Machine
end

