-- ==== Sys2Proof/Machine/PortCommands.lean ====
section
/-! DEFINITION. The ingest, scan-out port, lock and memory channel commands (sections 5.11, 6.7, 7.7, 8.8). -/

namespace Sys2Proof.Machine

/-! ## Ingest ports -/

/-- R103: a loss timeout that the new setting makes due occurs immediately after the command (log 28). -/
def Video.lossIfDue (v : Video) (p : PortId) : Video := if (v.input p).lossDue then v.lossTimeout p else v

/-- R103: INGEST_SET. -/
def cmdIngestSet (port lossTimeout normalMark urgentMark : Byte) (s : State) : Answer :=
  match portNumber port with
  | none => refuse s .badArg
  | some p =>
    let n := normalMark.toNat
    let u := urgentMark.toNat
    if lossTimeout = 0 then refuse s .badArg
    else if ¬(1 ≤ n ∧ n ≤ 32) then refuse s .badArg
    else if u < n ∨ 32 < u then refuse s .badArg
    else
      answerOk
        (s.modVideo (resuming fun v =>
          (v.modInput p fun g =>
            { g with lossTimeout := lossTimeout.toNat, normalMark := n, urgentMark := u }.settleFifo).lossIfDue p)) []

/-- Section 11.9: the fields of INGEST_QUERY. -/
def ingestFields (g : Ingest) : List Byte :=
  let target : Byte × Seq := match g.target with
    | some (i, q) => (natByte i.val, q)
    | none => (0xFF, 0)
  [g.state.number, optByte g.stream, boolByte g.stopPending, natByte g.lossTimeout, natByte g.normalMark,
    natByte g.urgentMark, natByte g.fifo.length, natByte g.inFlight, boolByte g.tailFlush, target.1]
    ++ bytes32 target.2 ++ natBytes16 g.linesReceived ++ bytes32 g.framesSeen ++ bytes32 g.burstsDropped

/-- R104: INGEST_QUERY. -/
def cmdIngestQuery (port option : Byte) (s : State) : Answer :=
  match portNumber port, optionOf option with
  | some p, some clear =>
    answerOk
      (if clear then s.modVideo fun v => v.modInput p fun g => { g with framesSeen := 0, burstsDropped := 0 } else s)
      (ingestFields (s.video.input p))
  | _, _ => refuse s .badArg

/-! ## Scan-out ports -/

/-- R120: the timing written. R120 does not say what becomes of the line counter, the emission line and the fetch line,
which a smaller frame can leave beyond the ranges of R107: they are kept (DESIGN CHOICE, log 42). -/
def Port.setTiming (pt : Port) (bpp width lines topBlank total length : Nat) (border underrun : BitVec 32)
    (lead : Nat) : Port :=
  { pt with
    bpp := bpp
    activeWidth := width
    activeLines := lines
    topBlank := topBlank
    totalLines := total
    lineLength := length
    borderColour := border
    underrunColour := underrun
    urgentLead := lead
    frameTotal := total
    nextTotal := total
    timingValid := true }

/-- R135: after PORT_SET a configuration whose delta the new total lines no longer admit is cleared. -/
def Video.recheckLock (v : Video) (p : PortId) : Video :=
  if (v.lock p).configured && !(v.port p).admitsDelta (v.lock p).delta then v.modLock p LockUnit.clearConfig else v

/-- R120: PORT_SET. -/
def cmdPortSet (port bpp : Byte) (activeWidth activeLines : BitVec 16) (topBlank : Byte)
    (totalLines lineLength : BitVec 16) (border underrun : BitVec 32) (urgentLead : Byte) (s : State) : Answer :=
  match portNumber port with
  | none => refuse s .badArg
  | some p =>
    let w := activeWidth.toNat
    let l := activeLines.toNat
    let tb := topBlank.toNat
    let total := totalLines.toNat
    let len := lineLength.toNat
    if (s.video.port p).on then refuse s .badState
    else if ¬(2 ≤ bpp.toNat ∧ bpp.toNat ≤ 4 ∧ 16 ≤ w ∧ w ≤ 4096 ∧ 16 ≤ l ∧ l ≤ 4096 ∧ 2 ≤ tb) then refuse s .badArg
    else if ¬(tb + l + 1 ≤ total ∧ total ≤ 8191 ∧ w + 16 ≤ len ∧ len ≤ 16383) then refuse s .badArg
    else if 2 < urgentLead.toNat then refuse s .badArg
    else
      answerOk
        (s.modVideo fun v =>
          (v.modPort p fun pt =>
            pt.setTiming bpp.toNat w l tb total len border underrun urgentLead.toNat).recheckLock p) []

/-- R121: the port turned on; the first line start is a frame start. Emission line and fetch line, which R121 does not
name, are kept until then (DESIGN CHOICE, log 42). -/
def Port.turnOn (pt : Port) : Port :=
  { pt with on := true, frameTotal := pt.totalLines, nextTotal := pt.totalLines, lineCounter := pt.totalLines - 1 }

/-- R135: PORT_ON reaches the lock unit. -/
def LockUnit.portOn (u : LockUnit) : LockUnit :=
  let u := { u with firstFrameSeen := false }
  if u.configured then u.acquire else u

/-- R121: PORT_ON. -/
def cmdPortOn (port : Byte) (s : State) : Answer :=
  match portNumber port with
  | none => refuse s .badArg
  | some p =>
    if (s.video.port p).on then refuse s .badState
    else if !(s.video.port p).timingValid then refuse s .badState
    else if !s.dramReady then refuse s .notReady
    else answerOk (s.modVideo fun v => (v.modPort p Port.turnOn).modLock p LockUnit.portOn) []

/-- R122: the port's own part of PORT_OFF: outputs idle, no wait, pending list empty, line stores free. Line counter,
emission line and fetch line are in neither R122's changes nor its list of what is kept: they are kept (DESIGN CHOICE,
log 40). -/
def Port.halt (pt : Port) : Port :=
  { pt with
    pins := OutPins.idle
    wait := none
    pendingReads := []
    stores := Vector.replicate 4 LineStore.free }

/-- R66, R122, R127: PORT_OFF carried out; the lock unit is unlocked while the port is still ON (log 21). -/
def Video.turnOff (v : Video) (p : PortId) : Video :=
  let v := v.modPort p Port.halt
  let v := allLayers.foldl (fun v l => v.windowOff (winOf p l)) v
  let v := (v.modLock p fun u => { u with state := .unlocked }).modPort p Port.nominalNext
  v.modPort p fun pt => { pt with on := false }

/-- R122: PORT_OFF. -/
def cmdPortOff (port : Byte) (s : State) : Answer :=
  match portNumber port with
  | none => refuse s .badArg
  | some p =>
    if !(s.video.port p).on then refuse s .badState
    else answerOk (s.modVideo fun v => v.turnOff p) []

/-- Section 11.9: the fields of PORT_QUERY. -/
def portFields (p : PortId) (pt : Port) (u : LockUnit) : List Byte :=
  let wait : List Byte := match pt.wait with
    | some wt => [1, natByte (winOf p wt.layer).val] ++ natBytes16 wt.srcLine
    | none => [0, 0xFF, 0, 0]
  let fetch : List Byte := match pt.fetchLine with
    | some y => natBytes16 y
    | none => [0xFF, 0xFF]
  [boolByte pt.on, boolByte pt.timingValid, natByte pt.bpp] ++ natBytes16 pt.activeWidth ++ natBytes16 pt.activeLines
    ++ [natByte pt.topBlank] ++ natBytes16 pt.totalLines ++ natBytes16 pt.lineLength
    ++ bytes32 pt.borderColour ++ bytes32 pt.underrunColour ++ [natByte pt.urgentLead]
    ++ natBytes16 pt.lineCounter ++ natBytes16 pt.frameTotal ++ natBytes16 pt.nextTotal ++ bytes32 pt.frameNumber
    ++ natBytes16 pt.emissionLine ++ fetch ++ wait ++ natBytes16 pt.pendingReads.length ++ [natByte pt.inFlight]
    ++ bytes32 pt.frames ++ bytes32 pt.cutFrames ++ [u.state.number] ++ bytes16 (BitVec.ofInt 16 u.lastError)
    ++ natBytes16 u.samples

/-- R123: PORT_QUERY. -/
def cmdPortQuery (port option : Byte) (s : State) : Answer :=
  match portNumber port, optionOf option with
  | some p, some clear =>
    answerOk
      (if clear then s.modVideo fun v => v.modPort p fun pt => { pt with frames := 0, cutFrames := 0 } else s)
      (portFields p (s.video.port p) (s.video.lock p))
  | _, _ => refuse s .badArg

/-! ## Lock units -/

/-- R133: the configuration written. -/
def LockUnit.configure (u : LockUnit) (st : StreamId) (n w d : Nat) : LockUnit :=
  { u with configured := true, refStream := st, interval := n, window := w, delta := d }

/-- R133: LOCK_SET carried out. -/
def Video.setLockConfig (v : Video) (p : PortId) (st : StreamId) (n w d : Nat) : Video :=
  let v := v.modLock p fun u => u.configure st n w d
  if (v.port p).on then (v.modLock p LockUnit.acquire).modPort p Port.nominalNext
  else v.modLock p fun u => { u with state := .unlocked }

/-- R133: LOCK_SET. -/
def cmdLockSet (port stream n w d : Byte) (s : State) : Answer :=
  match portNumber port, streamOf stream with
  | some p, some st =>
    if ¬(1 ≤ n.toNat ∧ n.toNat ≤ 16 ∧ 1 ≤ d.toNat ∧ d.toNat ≤ 15) then refuse s .badArg
    else if !(s.video.port p).timingValid then refuse s .badState
    else if !(s.video.port p).admitsDelta d.toNat then refuse s .badArg
    else answerOk (s.modVideo fun v => v.setLockConfig p st n.toNat w.toNat d.toNat) []
  | _, _ => refuse s .badArg

/-- R134: LOCK_CLEAR. -/
def cmdLockClear (port : Byte) (s : State) : Answer :=
  match portNumber port with
  | none => refuse s .badArg
  | some p =>
    answerOk
      (s.modVideo fun v =>
        (v.modLock p fun u => { u.clearConfig with state := .unlocked }).modPort p Port.nominalNext) []

/-! ## Memory channel -/

/-- Section 11.9: the fields of MEMORY_QUERY. -/
def State.memoryFields (s : State) : List Byte :=
  let c := s.channel
  [c.cal.number, natByte c.attempts] ++ bytes32 c.urgentGrants ++ bytes32 c.normalGrants
    ++ bytes32 c.backgroundGrants ++ [natByte c.inFlight.length]
    ++ (List.finRange 8).map (fun r => requestNumber (s.requestOf r)) ++ [requestNumber s.hostRequest]
    ++ [natByte c.urgentPtr.val, natByte c.normalPtr.val]

/-- R149: the grant counters set to 0. -/
def Channel.clearCounters (c : Channel) : Channel :=
  { c with urgentGrants := 0, normalGrants := 0, backgroundGrants := 0 }

/-- R149: MEMORY_QUERY. -/
def cmdMemoryQuery (option : Byte) (s : State) : Answer :=
  match optionOf option with
  | some clear => answerOk (if clear then s.modChannel Channel.clearCounters else s) s.memoryFields
  | none => refuse s .badArg

end Sys2Proof.Machine
end

