-- ==== Sys2Proof/Machine/FrameCommands.lean ====
section
/-! DEFINITION. The host frame commands (Chapter 9): FRAME_BEGIN, SPAN_WRITE, FRAME_PUBLISH, FRAME_ABANDON and
SPAN_READ, and ABORT of a span (R159). -/

namespace Sys2Proof.Machine

/-- A stream whose source is HOST and that is RUNNING or STOPPING (sections 9.3.2 to 9.3.4). -/
def Stream.hostActive (x : Stream) : Bool :=
  x.source == some .host && (x.state == .running || x.state == .stopping)

/-- R153: FRAME_BEGIN. A take that finds no target is answered NO_SLOT, counted and raised. -/
def cmdFrameBegin (stream : Byte) (s : State) : Answer :=
  match streamOf stream with
  | none => refuse s .badArg
  | some st =>
    let x := s.video.stream st
    if !s.dramReady then refuse s .notReady
    else if x.source ≠ some .host then refuse s .badState
    else if x.state ≠ .running then refuse s .badState
    else if x.fillTarget.isSome then refuse s .badState
    else
      match s.video.take st with
      | (v, .taken i q) => answerOk (s.withVideo v) (natByte i.val :: bytes32 q)
      | (v, .noTarget) =>
        .done
          (s.withVideo
            ((v.modStream st fun x => { x with overflowed := satInc x.overflowed }).raiseStream st .overflow))
          .noSlot []
      | (v, .refused) => .done (s.withVideo v) .noSlot []

/-- R154, R158: the length and offset of a span are multiples of 64 and the length is 64 to 4096. -/
def spanSizesOk (offset length : Nat) : Bool :=
  offset % 64 == 0 && length % 64 == 0 && 64 ≤ length && length ≤ 4096

/-- R151: the start address of a span. -/
def Video.spanAddr (v : Video) (i : SlotId) (line offset : Nat) : Nat := v.burstAddr i line 0 + offset

/-- R154: the span data copied into buffer bytes 0 to length − 1. -/
def HostUnit.fill (h : HostUnit) (data : List Byte) : Vector Burst 64 :=
  Vector.ofFn fun k => if 64 * k.val < data.length then burstOf (data.drop (64 * k.val)) else h.buffer[k]

/-- R154, R158: a span begins. -/
def HostUnit.begin (h : HostUnit) (state : HostState) (i : SlotId) (addr length : Nat) : HostUnit :=
  { h with
    state := state
    slot := some i
    startAddr := addr
    spanBursts := length / 64
    issued := 0
    completed := 0 }

/-- R154: SPAN_WRITE, a long command. -/
def cmdSpanWrite (stream : Byte) (line offset length : BitVec 16) (data : List Byte) (s : State) : Answer :=
  match streamOf stream with
  | none => refuse s .badArg
  | some st =>
    let x := s.video.stream st
    let off := offset.toNat
    let len := length.toNat
    if !s.dramReady then refuse s .notReady
    else if !x.hostActive then refuse s .badState
    else
      match x.fillTarget with
      | none => refuse s .badState
      | some i =>
        if !spanSizesOk off len then refuse s .badArg
        else if data.length ≠ len then refuse s .badLength
        else if x.height ≤ line.toNat ∨ x.pitch * 64 < off + len then refuse s .badArg
        else
          .long (s.modHost fun h =>
            { h.begin .writing i (s.video.spanAddr i line.toNat off) len with buffer := h.fill data })

/-- R156: FRAME_PUBLISH carried out: committed becomes the height, the complete claim is made, a stop ends (R42). -/
def Video.publishHost (v : Video) (st : StreamId) (i : SlotId) : Video :=
  let q := v.seqOf i
  ((v.commit i q (v.stream st).height).complete i q).endOfStop st

/-- R156: FRAME_PUBLISH. -/
def cmdFramePublish (stream : Byte) (s : State) : Answer :=
  match streamOf stream with
  | none => refuse s .badArg
  | some st =>
    let x := s.video.stream st
    if !x.hostActive then refuse s .badState
    else
      match x.fillTarget with
      | none => refuse s .badState
      | some i =>
        answerOk (s.modVideo (resuming fun v => v.publishHost st i)) (natByte i.val :: bytes32 (s.video.seqOf i))

/-- R157: FRAME_ABANDON. -/
def cmdFrameAbandon (stream : Byte) (s : State) : Answer :=
  match streamOf stream with
  | none => refuse s .badArg
  | some st =>
    let x := s.video.stream st
    if !x.hostActive then refuse s .badState
    else
      match x.fillTarget with
      | none => refuse s .badState
      | some i =>
        answerOk (s.modVideo (resuming fun v => (v.abandon i).endOfStop st))
          (natByte i.val :: bytes32 (s.video.seqOf i))

/-- R158: SPAN_READ, a long command. -/
def cmdSpanRead (slot : Byte) (line offset length : BitVec 16) (s : State) : Answer :=
  match slotOf slot with
  | none => refuse s .badArg
  | some i =>
    let sl := s.video.slot i
    let off := offset.toNat
    let len := length.toNat
    if !s.dramReady then refuse s .notReady
    else if !sl.pinned then refuse s .badState
    else if ¬(sl.state = .ready ∨ sl.state = .detached) then refuse s .badState
    else if !spanSizesOk off len then refuse s .badArg
    else
      let height := match sl.owner with
        | some st => (s.video.stream st).height
        | none => 0
      if height ≤ line.toNat ∨ s.video.pitchOf i * 64 < off + len then refuse s .badArg
      else .long (s.modHost fun h => h.begin .reading i (s.video.spanAddr i line.toNat off) len)

/-! ## The end of a span (R151, R155, R158, R159) -/

/-- R151: the span in progress ends. -/
def HostUnit.spanDue (h : HostUnit) : Bool :=
  h.state != .idle && h.completed == h.issued && (h.issued == h.spanBursts || h.abort)

/-- R151: the unit after a span; the buffer, and the start address and span bursts, keep their values (log 27). -/
def HostUnit.finish (h : HostUnit) : HostUnit :=
  { h with state := .idle, slot := none, issued := 0, completed := 0, abort := false }

/-- R155, R158, R159: the status and payload of the span's response. -/
def HostUnit.result (h : HostUnit) : Status × List Byte :=
  match h.state with
  | .reading =>
    if h.abort then (.aborted, []) else (.ok, (h.buffer.toList.take h.spanBursts).flatMap Vector.toList)
  | .writing | .idle => (if h.abort then .aborted else .ok, natBytes16 (h.issued * 64))

/-- R159: ABORT reaches the unit. -/
def HostUnit.abortSpan (h : HostUnit) : HostUnit := if h.state = .idle then h else { h with abort := true }

end Sys2Proof.Machine
end

