-- ==== Sys2Proof/Machine/LinkCommands.lean ====
section
/-! DEFINITION. The attention commands (section 10.4), NOP, RESET and its reset point (R150, R179), and power-on
reset. -/

namespace Sys2Proof.Machine

/-! ## Attention -/

/-- Section 11.9: the elements of ATTN_READ, in increasing entry number. -/
def Attention.elements (a : Attention) : List Byte :=
  (List.finRange 29).flatMap fun e =>
    if (a.entry e).pending = 0 then [] else [natByte e.val, (a.entry e).pending, (a.entry e).enabled]

/-- R166: ATTN_READ. -/
def cmdAttnRead (s : State) : Answer := answerOk s s.video.attn.elements

def Video.modAttn (v : Video) (f : Attention → Attention) : Video := { v with attn := f v.attn }

/-- R167: ATTN_CLEAR. -/
def cmdAttnClear (entry causes : Byte) (s : State) : Answer :=
  match entryOf entry with
  | none => refuse s .badArg
  | some e =>
    if causes &&& ~~~ kindCauses e ≠ 0 then refuse s .badArg
    else
      answerOk
        (s.modVideo fun v =>
          v.modAttn fun a => a.modEntry e fun x => { x with pending := x.pending &&& ~~~ causes }) []

/-- R165: ATTN_MASK. -/
def cmdAttnMask (entry causes : Byte) (s : State) : Answer :=
  match entryOf entry with
  | none => refuse s .badArg
  | some e =>
    if causes &&& ~~~ kindCauses e ≠ 0 then refuse s .badArg
    else answerOk (s.modVideo fun v => v.modAttn fun a => a.modEntry e fun x => { x with enabled := causes }) []

/-! ## NOP and RESET -/

/-- R180: NOP echoes its payload. -/
def cmdNop (payload : List Byte) (s : State) : Answer := answerOk s payload

/-- R150, the soft reset column, at the end of the drain. -/
def Channel.softReset (c : Channel) : Channel :=
  { Channel.reset with cal := c.cal, attempts := c.attempts, inFlight := c.inFlight }

/-- R179: the reset point: every block but the host link takes its soft-reset values, and the calibration state and
attempts are kept. -/
def State.softReset (s : State) : State :=
  { s with video := Video.reset, channel := s.channel.softReset, host := HostUnit.reset }

/-- R125: in the happening in which RESET is taken a scan-out port makes its outputs idle. -/
def Video.idleOutputs (v : Video) : Video :=
  allPorts.foldl (fun v p => v.modPort p fun pt => { pt with pins := OutPins.idle }) v

/-- R150, R179: RESET, a long command; the drain ends at once when nothing is in flight. -/
def cmdReset (s : State) : Answer :=
  let s := (s.modChannel fun c => { c with draining := true }).modVideo Video.idleOutputs
  if s.channel.inFlight.isEmpty then answerOk s.softReset [] else .long s

/-! ## Power-on reset -/

/-- A byte of an abandoned write: landed or not, by free choice (R150, log 8). -/
def abandonBytes (m : List Host.Cell) (free a : Nat) : List Byte → List Host.Cell
  | [] => m
  | x :: xs => abandonBytes (if Config.abandonedByteLands free then memWrite m a x else m) (free + 1) (a + 1) xs

/-- R150: the transfers in flight are abandoned without completion; which bytes of a write have landed is open. -/
def abandonTransfers (m : List Host.Cell) (free : Nat) : List Transfer → List Host.Cell
  | [] => m
  | .ingestWrite _ a _ d :: ts => abandonTransfers (abandonBytes m free a d.toList) (free + 64) ts
  | .hostWrite a _ d :: ts => abandonTransfers (abandonBytes m free a d.toList) (free + 64) ts
  | .portRead .. :: ts | .hostRead .. :: ts => abandonTransfers m free ts

/-- R28, R49, R74, R106, R125, R137, R150, R161, R169, R182: every block takes its reset values. Neither reset writes
frame memory (R138). -/
def State.powerOn (s : State) : State :=
  { State.reset with
    mem := abandonTransfers s.mem s.freeCount s.channel.inFlight
    freeCount := s.freeCount + 64 * s.channel.inFlight.length
    pending := s.pending }

end Sys2Proof.Machine
end

