-- ==== Sys2Proof/Machine/Link.lean ====
section
/-! DEFINITION. The host link (Chapter 11): link faults, taking commands from the command queue (R173), the ends of
long commands, and the transactions. -/

namespace Sys2Proof.Machine

/-! ## Faults and responses -/

/-- R171, R172, R178: a link fault is recorded and LINK_FAULT is raised. -/
def State.linkFault (s : State) (k : LinkFault) (tag : Byte) : State :=
  (s.modLink fun l => { l with faultKind := k, faultTag := tag }).modVideo fun v => v.raiseDevice .linkFault

/-- R173: a response appended to the tail of the response queue. -/
def State.respond (s : State) (tag code : Byte) (status : Status) (payload : List Byte) : State :=
  s.modLink fun l =>
    { l with responses := l.responses ++ [{ tag := tag, code := code, status := status, payload := payload }] }

/-! ## Taking a command (R173) -/

/-- A host command carried out by its own section. -/
def runCmd : HostCmd → State → Answer
  | .slotBase slot base, s => cmdSlotBase slot base s
  | .slotQuery slot, s => cmdSlotQuery slot s
  | .pin selector arg seq, s => cmdPin selector arg seq s
  | .unpin slot, s => cmdUnpin slot s
  | .streamOpen stream source bpp width height pitch delivery mask pool, s =>
    cmdStreamOpen stream source bpp width height pitch delivery mask pool s
  | .streamStart stream, s => cmdStreamStart stream s
  | .streamStop stream mode, s => cmdStreamStop stream mode s
  | .streamClose stream, s => cmdStreamClose stream s
  | .poolGrow stream slot, s => cmdPoolGrow stream slot s
  | .poolShrink stream slot, s => cmdPoolShrink stream slot s
  | .streamQuery stream option, s => cmdStreamQuery stream option s
  | .windowSet window stream x0 y0 w h dx dy hrep vrep guard, s =>
    cmdWindowSet window stream x0 y0 w h dx dy hrep vrep guard s
  | .cadenceSet window counts, s => cmdCadenceSet window counts s
  | .windowClear window, s => cmdWindowClear window s
  | .windowQuery window option, s => cmdWindowQuery window option s
  | .ingestSet port lossTimeout normalMark urgentMark, s => cmdIngestSet port lossTimeout normalMark urgentMark s
  | .ingestQuery port option, s => cmdIngestQuery port option s
  | .portSet port bpp activeWidth activeLines topBlank totalLines lineLength border underrun urgentLead, s =>
    cmdPortSet port bpp activeWidth activeLines topBlank totalLines lineLength border underrun urgentLead s
  | .portOn port, s => cmdPortOn port s
  | .portOff port, s => cmdPortOff port s
  | .portQuery port option, s => cmdPortQuery port option s
  | .lockSet port stream n w d, s => cmdLockSet port stream n w d s
  | .lockClear port, s => cmdLockClear port s
  | .memoryQuery option, s => cmdMemoryQuery option s
  | .frameBegin stream, s => cmdFrameBegin stream s
  | .spanWrite stream line offset length data, s => cmdSpanWrite stream line offset length data s
  | .framePublish stream, s => cmdFramePublish stream s
  | .frameAbandon stream, s => cmdFrameAbandon stream s
  | .spanRead slot line offset length, s => cmdSpanRead slot line offset length s
  | .attnRead, s => cmdAttnRead s
  | .attnClear entry causes, s => cmdAttnClear entry causes s
  | .attnMask entry causes, s => cmdAttnMask entry causes s
  | .nop payload, s => cmdNop payload s
  | .reset, s => cmdReset s

/-- R173, R177: the answer of a taken entry: its response is appended, or it is held as the executing command. -/
def finishTake (e : CmdEntry) : Answer → State
  | .done s status payload => s.respond e.tag e.code status payload
  | .long s => s.modLink fun l => { l with executing := some e }

/-- R173: a taken entry, answered by the first matching row. -/
def takeEntry (e : CmdEntry) (s : State) : State :=
  if e.purged then finishTake e (refuse s .purged)
  else
    match parseCmd e.code e.payload with
    | .badCommand => finishTake e (refuse s .badCommand)
    | .badLength => finishTake e (refuse s .badLength)
    | .cmd c => finishTake e (runCmd c s)

/-- R173: a command may be taken. -/
def Link.mayTake (l : Link) : Bool := l.executing.isNone && l.responses.length < Config.queueDepth

/-- R173: the head of the command queue is taken while it may be, at most `fuel` times. -/
def settleFor : Nat → State → State
  | 0, s => s
  | fuel + 1, s =>
    if s.link.mayTake then
      match s.link.commands with
      | [] => s
      | e :: rest => settleFor fuel (takeEntry e (s.modLink fun l => { l with commands := rest }))
    else s

/-- R173: the head is taken in the first happening in which it may be; each taking shortens the queue. -/
def State.settle (s : State) : State := settleFor s.link.commands.length s

/-- R172, R173: an entry appended to the command queue, or refused with QUEUE_FULL. -/
def State.accept (s : State) (e : CmdEntry) : State :=
  if Config.queueDepth ≤ s.link.commands.length then s.linkFault .queueFull e.tag
  else (s.modLink fun l => { l with commands := l.commands ++ [e] }).settle

/-- R170: the command entry of a host command. -/
def HostCmd.entry (c : HostCmd) (tag : Byte) : CmdEntry :=
  { tag := tag, code := c.code, payload := c.payload, purged := false }

/-- A host command sent in a well-formed frame with the given tag (log 4). When it can be taken at once it is carried
out in this happening; otherwise it waits in the command queue as any accepted frame. No frame carries more than 4104
payload bytes: a longer one is a link fault (R172, log 30). -/
def State.command (s : State) (tag : Byte) (c : HostCmd) : State :=
  if Config.maxPayload < c.payload.length then s.linkFault .overlength tag
  else if s.link.mayTake && s.link.commands.isEmpty then finishTake (c.entry tag) (runCmd c s)
  else s.accept (c.entry tag)

/-! ## The ends of long commands (R177) -/

/-- R177: the executing command is answered and the head command may be taken at once. -/
def State.endLong (s : State) (status : Status) (payload : List Byte) : State :=
  match s.link.executing with
  | none => s
  | some e =>
    ((s.modLink fun l => { l with executing := none }).respond e.tag e.code status payload).settle

/-- R151, R155, R158, R159: a span that is due ends. -/
def State.endSpan (s : State) : State :=
  if s.host.spanDue then
    let r := s.host.result
    (s.modHost HostUnit.finish).endLong r.1 r.2
  else s

/-- R150, R179: the drain of a soft reset ends when the in-flight list is empty. -/
def State.endDrain (s : State) : State :=
  if s.channel.draining && s.channel.inFlight.isEmpty then s.softReset.endLong .ok [] else s

/-- R147 to R150: the head transfer completes, and what its completion ends comes about in the same happening. A
transfer outside frame memory is a fault (R138, log 23). -/
def State.transferDone (s : State) : Host.Outcome State Fault Refusal :=
  match s.channel.inFlight with
  | [] => .next s
  | t :: rest =>
    if burstInMemory t.addr then .next (s.completeHead t rest).endSpan.endDrain
    else .fault (.outsideFrameMemory t.addr)

/-! ## Transactions (R171 to R178) -/

/-- R171: what LNK_SDO shifted out in the transaction; 00h during the type byte. -/
def State.shiftOut (s : State) (bytes : List Byte) : State := s.modLink fun l => { l with sdo := 0 :: bytes }

/-- R172: the first row of the link fault table that matches a command frame, if one does. -/
def frameFault (bytes : List Byte) : Option LinkFault :=
  match bytes with
  | _ :: _ :: lo :: hi :: _ =>
    let n := (le16 lo hi).toNat
    if Config.maxPayload < n then some .overlength
    else if bytes.length < 5 + n then some .truncated
    else if 5 + n < bytes.length then some .overlength
    else if byteSum bytes ≠ 0 then some .checksum
    else none
  | _ => some .truncated

/-- R172: the entry of a well-formed command frame. -/
def frameEntry (bytes : List Byte) : CmdEntry :=
  { tag := bytes.getD 0 0
    code := bytes.getD 1 0
    payload := (bytes.drop 4).take (bytes.length - 5)
    purged := false }

/-- R172: a command frame is refused as a link fault or accepted; QUEUE_FULL is the last row. -/
def State.receiveFrame (s : State) (bytes : List Byte) : State :=
  match frameFault bytes with
  | some k => s.linkFault k (bytes.getD 0 0)
  | none => s.accept (frameEntry bytes)

/-- R175: the first `count` bytes that RESPONSE READ shifts out after the type byte. -/
def readBytes (frame : List Byte) (count : Nat) : List Byte :=
  frame.take count ++ List.replicate (count - frame.length) 0xFF

/-- R175: RESPONSE READ of `count` bytes. The head response is removed when every byte of it was shifted out. -/
def State.readResponse (s : State) (count : Nat) : State :=
  match s.link.responses with
  | [] => s.shiftOut (readBytes [] count)
  | r :: rest =>
    let s := s.shiftOut (readBytes r.bytes count)
    if r.bytes.length ≤ count then (s.modLink fun l => { l with responses := rest }).settle else s

/-- R176, section 11.9: the five status bytes. -/
def State.statusBytes (s : State) : List Byte :=
  let attn : Byte := if s.video.attn.line then 1 else 0
  let executing : Byte := if s.link.executing.isSome then 8 else 0
  [attn ||| (s.channel.cal.number <<< 1) ||| executing,
    natByte (Config.queueDepth - s.link.commands.length),
    natByte s.link.responses.length,
    s.link.faultKind.number,
    s.link.faultTag]

/-- R176: what STATUS READ of `count` bytes shifts out after the type byte. -/
def State.readStatus (s : State) (count : Nat) : List Byte := readBytes s.statusBytes count

/-- R178: purge marks every entry then in the command queue. -/
def Link.purge (l : Link) : Link := { l with commands := l.commands.map fun e => { e with purged := true } }

/-- R178: a complete ABORT with the given flag byte. The purge marks come first, so that no purged entry is carried
out when the span ends in the same happening (log 33). -/
def State.abortNow (s : State) (flag : Byte) : State :=
  let s := if flag.getLsbD 0 then s.modLink Link.purge else s
  (s.modHost HostUnit.abortSpan).endSpan

end Sys2Proof.Machine
end

