-- ==== Sys2Proof/Machine/HostSteps.lean ====
section
/-! DEFINITION. The meanings of the rows that are host commands: the host sends the command in a well-formed frame
with the given tag, and the command is taken at once when it may be (R173, log 4). What the command does stands with
its section's rule in the files of the command's chapter. -/

namespace Sys2Proof.Machine

/-- A step whose answer is always a next state. -/
abbrev Result := Host.Outcome State Fault Refusal

/-- R23: SLOT_BASE. -/
def execSlotBase (tag slot : Byte) (base : BitVec 16) (s : State) : Result :=
  .next (s.command tag (.slotBase slot base))

/-- R24: SLOT_QUERY. -/
def execSlotQuery (tag slot : Byte) (s : State) : Result :=
  .next (s.command tag (.slotQuery slot))

/-- R25: PIN. -/
def execPin (tag selector arg : Byte) (seq : BitVec 32) (s : State) : Result :=
  .next (s.command tag (.pin selector arg seq))

/-- R26: UNPIN. -/
def execUnpin (tag slot : Byte) (s : State) : Result :=
  .next (s.command tag (.unpin slot))

/-- R37: STREAM_OPEN. -/
def execStreamOpen (tag stream source bpp : Byte) (width height pitch : BitVec 16) (delivery mask : Byte)
    (pool : List Byte) (s : State) : Result :=
  .next (s.command tag (.streamOpen stream source bpp width height pitch delivery mask pool))

/-- R39: STREAM_START. -/
def execStreamStart (tag stream : Byte) (s : State) : Result :=
  .next (s.command tag (.streamStart stream))

/-- R40: STREAM_STOP with mode AFTER_FRAME. -/
def execStreamStopAfterFrame (tag stream : Byte) (s : State) : Result :=
  .next (s.command tag (.streamStop stream 0))

/-- R41: STREAM_STOP with mode NOW. -/
def execStreamStopNow (tag stream : Byte) (s : State) : Result :=
  .next (s.command tag (.streamStop stream 1))

/-- R43: STREAM_CLOSE. -/
def execStreamClose (tag stream : Byte) (s : State) : Result :=
  .next (s.command tag (.streamClose stream))

/-- R44: POOL_GROW. -/
def execPoolGrow (tag stream slot : Byte) (s : State) : Result :=
  .next (s.command tag (.poolGrow stream slot))

/-- R45: POOL_SHRINK. -/
def execPoolShrink (tag stream slot : Byte) (s : State) : Result :=
  .next (s.command tag (.poolShrink stream slot))

/-- R46: STREAM_QUERY. -/
def execStreamQuery (tag stream option : Byte) (s : State) : Result :=
  .next (s.command tag (.streamQuery stream option))

/-- R69: WINDOW_SET. -/
def execWindowSet (tag window stream : Byte) (x0 y0 w h dx dy : BitVec 16) (hrep vrep guard : Byte)
    (s : State) : Result :=
  .next (s.command tag (.windowSet window stream x0 y0 w h dx dy hrep vrep guard))

/-- R70: CADENCE_SET. -/
def execCadenceSet (tag window : Byte) (counts : List Byte) (s : State) : Result :=
  .next (s.command tag (.cadenceSet window counts))

/-- R71: WINDOW_CLEAR. -/
def execWindowClear (tag window : Byte) (s : State) : Result :=
  .next (s.command tag (.windowClear window))

/-- R72: WINDOW_QUERY. -/
def execWindowQuery (tag window option : Byte) (s : State) : Result :=
  .next (s.command tag (.windowQuery window option))

/-- R103: INGEST_SET. -/
def execIngestSet (tag port lossTimeout normalMark urgentMark : Byte) (s : State) : Result :=
  .next (s.command tag (.ingestSet port lossTimeout normalMark urgentMark))

/-- R104: INGEST_QUERY. -/
def execIngestQuery (tag port option : Byte) (s : State) : Result :=
  .next (s.command tag (.ingestQuery port option))

/-- R120: PORT_SET. -/
def execPortSet (tag port bpp : Byte) (activeWidth activeLines : BitVec 16) (topBlank : Byte)
    (totalLines lineLength : BitVec 16) (border underrun : BitVec 32) (urgentLead : Byte) (s : State) : Result :=
  .next (s.command tag (.portSet port bpp activeWidth activeLines topBlank totalLines lineLength border
    underrun urgentLead))

/-- R121: PORT_ON. -/
def execPortOn (tag port : Byte) (s : State) : Result :=
  .next (s.command tag (.portOn port))

/-- R122: PORT_OFF. -/
def execPortOff (tag port : Byte) (s : State) : Result :=
  .next (s.command tag (.portOff port))

/-- R123: PORT_QUERY. -/
def execPortQuery (tag port option : Byte) (s : State) : Result :=
  .next (s.command tag (.portQuery port option))

/-- R133: LOCK_SET. -/
def execLockSet (tag port stream n w d : Byte) (s : State) : Result :=
  .next (s.command tag (.lockSet port stream n w d))

/-- R134: LOCK_CLEAR. -/
def execLockClear (tag port : Byte) (s : State) : Result :=
  .next (s.command tag (.lockClear port))

/-- R149: MEMORY_QUERY. -/
def execMemoryQuery (tag option : Byte) (s : State) : Result :=
  .next (s.command tag (.memoryQuery option))

/-- R153: FRAME_BEGIN. -/
def execFrameBegin (tag stream : Byte) (s : State) : Result :=
  .next (s.command tag (.frameBegin stream))

/-- R154: SPAN_WRITE. -/
def execSpanWrite (tag stream : Byte) (line offset length : BitVec 16) (data : List Byte) (s : State) : Result :=
  .next (s.command tag (.spanWrite stream line offset length data))

/-- R156: FRAME_PUBLISH. -/
def execFramePublish (tag stream : Byte) (s : State) : Result :=
  .next (s.command tag (.framePublish stream))

/-- R157: FRAME_ABANDON. -/
def execFrameAbandon (tag stream : Byte) (s : State) : Result :=
  .next (s.command tag (.frameAbandon stream))

/-- R158: SPAN_READ. -/
def execSpanRead (tag slot : Byte) (line offset length : BitVec 16) (s : State) : Result :=
  .next (s.command tag (.spanRead slot line offset length))

/-- R166: ATTN_READ. -/
def execAttnRead (tag : Byte) (s : State) : Result :=
  .next (s.command tag .attnRead)

/-- R167: ATTN_CLEAR. -/
def execAttnClear (tag entry causes : Byte) (s : State) : Result :=
  .next (s.command tag (.attnClear entry causes))

/-- R165: ATTN_MASK. -/
def execAttnMask (tag entry causes : Byte) (s : State) : Result :=
  .next (s.command tag (.attnMask entry causes))

/-- R180: NOP. -/
def execNop (tag : Byte) (payload : List Byte) (s : State) : Result :=
  .next (s.command tag (.nop payload))

/-- R150, R179: RESET. -/
def execReset (tag : Byte) (s : State) : Result :=
  .next (s.command tag .reset)

/-- R173, row 2: BAD_COMMAND, an accepted entry whose code is none of the 34. One of the 34 codes names another row
(log 31). -/
def execBadCommand (tag code : Byte) (payload : List Byte) (s : State) : Result :=
  if code ∈ knownCodes then .refused (.illFormed "BAD_COMMAND")
  else
    let e : CmdEntry := { tag := tag, code := code, payload := payload, purged := false }
    if Config.maxPayload < payload.length then .next (s.linkFault .overlength tag)
    else .next (s.accept e)

end Sys2Proof.Machine
end

