-- ==== Sys2Proof/Machine/LinkSteps.lean ====
section
/-! DEFINITION. The meanings of the link transactions (R171 to R178), and of the rows that end a long command
(R150, R155, R158, R177). A transaction is one step: what LNK_SDO shifts out is kept in the link record. -/

namespace Sys2Proof.Machine

/-! ## Transactions -/

/-- R171: LNK_SDO carries 00h while the host shifts in `count` bytes after the type byte. -/
def State.shiftZeros (s : State) (count : Nat) : State := s.shiftOut (List.replicate count 0)

/-- R171, R172: COMMAND WRITE with the given bytes after its type byte. -/
def execCommandWrite (bytes : List Byte) (s : State) : Result :=
  .next ((s.shiftZeros bytes.length).receiveFrame bytes)

/-- R175: RESPONSE READ of `count` bytes after its type byte. -/
def execResponseRead (count : Nat) (s : State) : Result := .next (s.readResponse count)

/-- R176: STATUS READ of `count` bytes after its type byte; it changes no record. -/
def execStatusRead (count : Nat) (s : State) : Result := .next (s.shiftOut (s.readStatus count))

/-- R178: ABORT with the given bytes after its type byte. Without a flag byte it is a link fault; bytes after the flag
byte are ignored (log 18). -/
def execAbort (bytes : List Byte) (s : State) : Result :=
  let s := s.shiftZeros bytes.length
  match bytes with
  | [] => .next (s.linkFault .truncated 0)
  | flag :: _ => .next (s.abortNow flag)

/-- R171: a transaction with an unknown type byte. A known type byte names another row (log 31). -/
def execUnknownType (typeByte : Byte) (count : Nat) (s : State) : Result :=
  match transactionType typeByte with
  | none => .next ((s.shiftZeros count).linkFault .unknownType 0)
  | some _ => .refused (.illFormed "UNKNOWN_TYPE")

/-! ## The ends of the long commands -/

/-- R150, R179: the reset point. The transfer whose completion ends the drain completes, or the drain ends when
nothing is in flight; nothing while no drain is about to end (log 5). -/
def execResetPoint (s : State) : Result :=
  if s.channel.draining then
    match s.channel.inFlight with
    | [] => .next s.endDrain
    | [_] => s.transferDone
    | _ :: _ :: _ => .next s
  else .next s

def Transfer.isHost : Transfer → Bool
  | .hostWrite .. | .hostRead .. => true
  | .ingestWrite .. | .portRead .. => false

/-- R151: one more completion ends the span in progress. -/
def HostUnit.oneShort (h : HostUnit) : Bool := { h with completed := h.completed + 1 }.spanDue

/-- R151, R155, R158: the span of kind `k` ends: at once when it is due, or by the completion of the head transfer
when that is the one it waits for; nothing while it is not about to end (log 5). -/
def State.spanEnds (s : State) (k : HostState) : Result :=
  if s.host.state = k then
    if s.host.spanDue then .next s.endSpan
    else if s.host.oneShort && s.channel.inFlight.head?.any Transfer.isHost then s.transferDone
    else .next s
  else .next s

/-- R155: the end of a write span. -/
def execSpanWriteEnd (s : State) : Result := s.spanEnds .writing

/-- R158: the end of a read span. -/
def execSpanReadEnd (s : State) : Result := s.spanEnds .reading

end Sys2Proof.Machine
end

