-- ==== Sys2Proof/Machine/VideoSteps.lean ====
section
/-! DEFINITION. The meanings of the resets, of the calibration endings (R140), of the video events (Chapters 5 and 6)
and of the channel events (Chapter 8). -/

namespace Sys2Proof.Machine

/-! ## Resets and calibration -/

/-- R28, R49, R74, R106, R125, R137, R150, R161, R169, R182: power-on reset is asserted. -/
def execPowerOnReset (s : State) : Result := .next s.powerOn

/-- R140: a calibration attempt is in progress. -/
def Channel.training (c : Channel) : Bool := c.cal == .calibrating && c.attempts != 0

/-- R140: the reset is released and attempt 1 begins. -/
def Channel.released (c : Channel) : Channel :=
  if c.cal = .calibrating ∧ c.attempts = 0 then { c with attempts := 1 } else c

/-- R140: power-on reset is released; nothing when it is not asserted (log 3). -/
def execPowerOnResetRelease (s : State) : Result := .next (s.modChannel Channel.released)

/-- R140: the calibration state changes for good and its cause is raised. -/
def State.endCalibration (s : State) (c : CalState) (cause : DeviceCause) : State :=
  (s.modChannel fun ch => { ch with cal := c }).modVideo fun v => v.raiseDevice cause

/-- R140: an attempt ends in a pass; nothing when no attempt is in progress (log 3). -/
def execCalibrationPass (s : State) : Result :=
  if s.channel.training then .next (s.endCalibration .ready .dramReady) else .next s

/-- R140: an attempt ends in a fail; nothing when no attempt is in progress (log 3). -/
def execCalibrationFail (s : State) : Result :=
  if s.channel.training then
    if s.channel.attempts < 3 then .next (s.modChannel fun c => { c with attempts := c.attempts + 1 })
    else .next (s.endCalibration .failed .dramFailed)
  else .next s

/-! ## Video events -/

/-- R106, R125, R179: a happening at an ingest or a scan-out port; while a soft reset drains it has no effect
(log 17). -/
def State.videoEvent (s : State) (f : Video → Video) : State := if s.channel.draining then s else s.modVideo f

/-- R95, R96. -/
def execInputFrameStart (port : PortId) (s : State) : Result :=
  .next (s.videoEvent (resuming fun v => v.inputFrameStart port s.channel.inFlight))

/-- R94. -/
def execInputFrameEnd (port : PortId) (s : State) : Result :=
  .next (s.videoEvent (resuming fun v => v.inputFrameEnd port s.channel.inFlight))

/-- R91. -/
def execInputLineStart (port : PortId) (s : State) : Result :=
  .next (s.videoEvent (resuming fun v => v.inputLineStart port))

/-- R93. -/
def execInputLineEnd (port : PortId) (s : State) : Result :=
  .next (s.videoEvent (resuming fun v => v.inputLineEnd port))

/-- R91: a pixel with INn_VALID. -/
def execPixel (port : PortId) (data : BitVec 32) (s : State) : Result :=
  .next (s.videoEvent fun v => v.inputPixel port data)

/-- R97: the loss timer of the port reaches its limit; nothing when it is not running. -/
def execLossTimeout (port : PortId) (s : State) : Result :=
  .next (s.videoEvent (resuming fun v => v.lossTimeout port))

/-- R109: a line start of a port; an OFF port has none (R108). -/
def execLineStart (port : PortId) (s : State) : Result :=
  .next (s.videoEvent fun v => if (v.port port).on then v.lineStart port else v)

/-- One millisecond: the running loss timers count, and a loss timeout occurs when it is due (R97, log 2). -/
def State.tick (s : State) : State :=
  s.videoEvent (resuming fun v => allPorts.foldl Video.tickInput v)

/-! ## Channel events -/

/-- R144: a grant; nothing when its conditions do not hold. -/
def execGrant (s : State) : Result := .next s.grantOnce

/-- R147: the head transfer completes; nothing when none is in flight (log 3). -/
def execTransferComplete (s : State) : Result := s.transferDone

end Sys2Proof.Machine
end

