-- ==== Sys2Proof/Machine/Dispatch.lean ====
section
/-! DEFINITION. One arm per command: each calls its meaning. -/

namespace Sys2Proof.Machine

def exec (i : Instr) (s : State) : Host.Outcome State Fault Refusal :=
  match i with
  | .powerOnReset => Sys2Proof.Machine.execPowerOnReset s
  | .powerOnResetRelease => Sys2Proof.Machine.execPowerOnResetRelease s
  | .calibrationPass => Sys2Proof.Machine.execCalibrationPass s
  | .calibrationFail => Sys2Proof.Machine.execCalibrationFail s
  | .commandWrite bytes => Sys2Proof.Machine.execCommandWrite bytes s
  | .responseRead count => Sys2Proof.Machine.execResponseRead count s
  | .statusRead count => Sys2Proof.Machine.execStatusRead count s
  | .abort bytes => Sys2Proof.Machine.execAbort bytes s
  | .unknownType typeByte count => Sys2Proof.Machine.execUnknownType typeByte count s
  | .badCommand tag code payload => Sys2Proof.Machine.execBadCommand tag code payload s
  | .slotBase tag slot base => Sys2Proof.Machine.execSlotBase tag slot base s
  | .slotQuery tag slot => Sys2Proof.Machine.execSlotQuery tag slot s
  | .pin tag selector arg seq => Sys2Proof.Machine.execPin tag selector arg seq s
  | .unpin tag slot => Sys2Proof.Machine.execUnpin tag slot s
  | .streamOpen tag stream source bpp width height pitch delivery mask pool => Sys2Proof.Machine.execStreamOpen tag stream source bpp width height pitch delivery mask pool s
  | .streamStart tag stream => Sys2Proof.Machine.execStreamStart tag stream s
  | .streamStopAfterFrame tag stream => Sys2Proof.Machine.execStreamStopAfterFrame tag stream s
  | .streamStopNow tag stream => Sys2Proof.Machine.execStreamStopNow tag stream s
  | .streamClose tag stream => Sys2Proof.Machine.execStreamClose tag stream s
  | .poolGrow tag stream slot => Sys2Proof.Machine.execPoolGrow tag stream slot s
  | .poolShrink tag stream slot => Sys2Proof.Machine.execPoolShrink tag stream slot s
  | .streamQuery tag stream option => Sys2Proof.Machine.execStreamQuery tag stream option s
  | .windowSet tag window stream x0 y0 w h dx dy hrep vrep guard => Sys2Proof.Machine.execWindowSet tag window stream x0 y0 w h dx dy hrep vrep guard s
  | .cadenceSet tag window counts => Sys2Proof.Machine.execCadenceSet tag window counts s
  | .windowClear tag window => Sys2Proof.Machine.execWindowClear tag window s
  | .windowQuery tag window option => Sys2Proof.Machine.execWindowQuery tag window option s
  | .ingestSet tag port lossTimeout normalMark urgentMark => Sys2Proof.Machine.execIngestSet tag port lossTimeout normalMark urgentMark s
  | .ingestQuery tag port option => Sys2Proof.Machine.execIngestQuery tag port option s
  | .portSet tag port bpp activeWidth activeLines topBlank totalLines lineLength border underrun urgentLead => Sys2Proof.Machine.execPortSet tag port bpp activeWidth activeLines topBlank totalLines lineLength border underrun urgentLead s
  | .portOn tag port => Sys2Proof.Machine.execPortOn tag port s
  | .portOff tag port => Sys2Proof.Machine.execPortOff tag port s
  | .portQuery tag port option => Sys2Proof.Machine.execPortQuery tag port option s
  | .lockSet tag port stream n w d => Sys2Proof.Machine.execLockSet tag port stream n w d s
  | .lockClear tag port => Sys2Proof.Machine.execLockClear tag port s
  | .memoryQuery tag option => Sys2Proof.Machine.execMemoryQuery tag option s
  | .frameBegin tag stream => Sys2Proof.Machine.execFrameBegin tag stream s
  | .spanWrite tag stream line offset length data => Sys2Proof.Machine.execSpanWrite tag stream line offset length data s
  | .framePublish tag stream => Sys2Proof.Machine.execFramePublish tag stream s
  | .frameAbandon tag stream => Sys2Proof.Machine.execFrameAbandon tag stream s
  | .spanRead tag slot line offset length => Sys2Proof.Machine.execSpanRead tag slot line offset length s
  | .attnRead tag => Sys2Proof.Machine.execAttnRead tag s
  | .attnClear tag entry causes => Sys2Proof.Machine.execAttnClear tag entry causes s
  | .attnMask tag entry causes => Sys2Proof.Machine.execAttnMask tag entry causes s
  | .nop tag payload => Sys2Proof.Machine.execNop tag payload s
  | .reset tag => Sys2Proof.Machine.execReset tag s
  | .resetPoint => Sys2Proof.Machine.execResetPoint s
  | .spanWriteEnd => Sys2Proof.Machine.execSpanWriteEnd s
  | .spanReadEnd => Sys2Proof.Machine.execSpanReadEnd s
  | .inputFrameStart port => Sys2Proof.Machine.execInputFrameStart port s
  | .inputFrameEnd port => Sys2Proof.Machine.execInputFrameEnd port s
  | .inputLineStart port => Sys2Proof.Machine.execInputLineStart port s
  | .inputLineEnd port => Sys2Proof.Machine.execInputLineEnd port s
  | .pixel port data => Sys2Proof.Machine.execPixel port data s
  | .lossTimeout port => Sys2Proof.Machine.execLossTimeout port s
  | .grant => Sys2Proof.Machine.execGrant s
  | .transferComplete => Sys2Proof.Machine.execTransferComplete s
  | .lineStart port => Sys2Proof.Machine.execLineStart port s

end Sys2Proof.Machine
end

