-- ==== Sys2Proof/WellFormed.lean ====
section
/-! DEFINITION. Which commands are well formed: the type byte of UNKNOWN_TYPE is none of the four types (R171), the
code of BAD_COMMAND is none of the 34 (R173), and no payload is longer than a frame carries (R172). -/

namespace Sys2Proof

/-- R172: the payload of a command with a list or data argument fits a frame, given its fixed part. -/
def fitsFrame (fixed : Nat) (rest : List Byte) : Bool := fixed + rest.length ≤ Config.maxPayload

/-- The command is one its row's term stands for. -/
def Instr.wellFormed : Instr → Bool
  | .unknownType t _ => t != 0x10 && t != 0x20 && t != 0x30 && t != 0x40
  | .badCommand _ code payload => !Machine.knownCodes.contains code && fitsFrame 0 payload
  | .streamOpen _ _ _ _ _ _ _ _ _ pool => fitsFrame 11 pool
  | .cadenceSet _ _ counts => fitsFrame 1 counts
  | .spanWrite _ _ _ _ _ data => fitsFrame 7 data
  | .nop _ payload => fitsFrame 0 payload
  | .powerOnReset | .powerOnResetRelease | .calibrationPass | .calibrationFail => true
  | .commandWrite _ | .responseRead _ | .statusRead _ | .abort _ => true
  | .slotBase .. | .slotQuery .. | .pin .. | .unpin .. => true
  | .streamStart .. | .streamStopAfterFrame .. | .streamStopNow .. | .streamClose .. => true
  | .poolGrow .. | .poolShrink .. | .streamQuery .. => true
  | .windowSet .. | .windowClear .. | .windowQuery .. => true
  | .ingestSet .. | .ingestQuery .. | .portSet .. | .portOn .. | .portOff .. | .portQuery .. => true
  | .lockSet .. | .lockClear .. | .memoryQuery .. => true
  | .frameBegin .. | .framePublish .. | .frameAbandon .. | .spanRead .. => true
  | .attnRead .. | .attnClear .. | .attnMask .. | .reset .. => true
  | .resetPoint | .spanWriteEnd | .spanReadEnd => true
  | .inputFrameStart _ | .inputFrameEnd _ | .inputLineStart _ | .inputLineEnd _ => true
  | .pixel .. | .lossTimeout _ | .grant | .transferComplete | .lineStart _ => true

end Sys2Proof
end

