-- ==== Sys2Proof/Safety.lean ====
section
/-! DEFINITION. What a safe run is, in the terms the statements use: when the link takes a command at once, what an
answered command leaves in the link record, and the invariants of the records. -/

namespace Sys2Proof.Machine

/-! ## The link -/

/-- R173: no command executes, the response queue holds fewer than 8 frames, and no other command waits, so that a
command is taken in the happening of its acceptance. -/
structure LinkFree (s : State) : Prop where
  executing : s.link.executing = none
  responses : s.link.responses.length < 8
  commands : s.link.commands = []

/-- R173, R174: the link record after a command was answered: one response at the tail of the response queue. -/
def Link.answered (l : Link) (tag code : Byte) (status : Status) (payload : List Byte) : Link :=
  { l with responses := l.responses ++ [{ tag := tag, code := code, status := status, payload := payload }] }

/-- R173: the state after a command that leaves the picture records as `v` and is answered OK. -/
def State.carriedOut (s : State) (tag code : Byte) (payload : List Byte) (v : Video) : State :=
  { s with video := v, link := s.link.answered tag code .ok payload }

/-- R171: what the most recent transaction shifted out, 00h during the type byte and then `bytes`. -/
def State.shifted (s : State) (bytes : List Byte) : State := { s with link := { s.link with sdo := 0 :: bytes } }

/-- R171, R172, R178: the state after a link fault: the kind and the tag recorded, and LINK_FAULT pending. -/
def State.faulted (s : State) (kind : LinkFault) (tag : Byte) : State :=
  { s with
    link := { s.link with faultKind := kind, faultTag := tag }
    video := { s.video with attn := s.video.attn.raise 28 4 } }

/-- R174: tag and code of every command that is answered but not read, executing or waiting, oldest first. -/
def Link.line (l : Link) : List (Byte × Byte) :=
  l.responses.map (fun r => (r.tag, r.code)) ++ l.executing.toList.map (fun e => (e.tag, e.code))
    ++ l.commands.map (fun e => (e.tag, e.code))

/-- R184: how many bytes of arguments a command code takes: the fixed part, and whether a list or data follows it. -/
def argumentSize (code : Byte) : Option (Nat × Bool) :=
  if code ∈ [0x70, 0x7F] then some (0, false)
  else if code ∈ [0x02, 0x04, 0x11, 0x13, 0x22, 0x41, 0x42, 0x49, 0x50, 0x60, 0x62, 0x63] then some (1, false)
  else if code ∈ [0x12, 0x14, 0x15, 0x16, 0x23, 0x31, 0x43, 0x71, 0x72] then some (2, false)
  else if code = 0x01 then some (3, false)
  else if code = 0x30 then some (4, false)
  else if code = 0x48 then some (5, false)
  else if code = 0x03 then some (6, false)
  else if code = 0x64 then some (7, false)
  else if code = 0x20 then some (17, false)
  else if code = 0x40 then some (20, false)
  else if code = 0x7E then some (0, true)
  else if code = 0x21 then some (1, true)
  else if code = 0x61 then some (7, true)
  else if code = 0x10 then some (11, true)
  else none

/-- The host command a row stands for, with its tag; none for the rows that are no host command (log 4). -/
def hostCommand : Instr → Option (Byte × HostCmd)
  | .powerOnReset => none
  | .powerOnResetRelease => none
  | .calibrationPass => none
  | .calibrationFail => none
  | .commandWrite _ => none
  | .responseRead _ => none
  | .statusRead _ => none
  | .abort _ => none
  | .unknownType _ _ => none
  | .badCommand _ _ _ => none
  | .slotBase tag slot base => some (tag, .slotBase slot base)
  | .slotQuery tag slot => some (tag, .slotQuery slot)
  | .pin tag selector arg seq => some (tag, .pin selector arg seq)
  | .unpin tag slot => some (tag, .unpin slot)
  | .streamOpen tag stream source bpp width height pitch delivery mask pool =>
    some (tag, .streamOpen stream source bpp width height pitch delivery mask pool)
  | .streamStart tag stream => some (tag, .streamStart stream)
  | .streamStopAfterFrame tag stream => some (tag, .streamStop stream 0)
  | .streamStopNow tag stream => some (tag, .streamStop stream 1)
  | .streamClose tag stream => some (tag, .streamClose stream)
  | .poolGrow tag stream slot => some (tag, .poolGrow stream slot)
  | .poolShrink tag stream slot => some (tag, .poolShrink stream slot)
  | .streamQuery tag stream option => some (tag, .streamQuery stream option)
  | .windowSet tag window stream x0 y0 w h dx dy hrep vrep guard =>
    some (tag, .windowSet window stream x0 y0 w h dx dy hrep vrep guard)
  | .cadenceSet tag window counts => some (tag, .cadenceSet window counts)
  | .windowClear tag window => some (tag, .windowClear window)
  | .windowQuery tag window option => some (tag, .windowQuery window option)
  | .ingestSet tag port lossTimeout normalMark urgentMark =>
    some (tag, .ingestSet port lossTimeout normalMark urgentMark)
  | .ingestQuery tag port option => some (tag, .ingestQuery port option)
  | .portSet tag port bpp activeWidth activeLines topBlank totalLines lineLength border underrun urgentLead =>
    some (tag, .portSet port bpp activeWidth activeLines topBlank totalLines lineLength border underrun urgentLead)
  | .portOn tag port => some (tag, .portOn port)
  | .portOff tag port => some (tag, .portOff port)
  | .portQuery tag port option => some (tag, .portQuery port option)
  | .lockSet tag port stream n w d => some (tag, .lockSet port stream n w d)
  | .lockClear tag port => some (tag, .lockClear port)
  | .memoryQuery tag option => some (tag, .memoryQuery option)
  | .frameBegin tag stream => some (tag, .frameBegin stream)
  | .spanWrite tag stream line offset length data => some (tag, .spanWrite stream line offset length data)
  | .framePublish tag stream => some (tag, .framePublish stream)
  | .frameAbandon tag stream => some (tag, .frameAbandon stream)
  | .spanRead tag slot line offset length => some (tag, .spanRead slot line offset length)
  | .attnRead tag => some (tag, .attnRead)
  | .attnClear tag entry causes => some (tag, .attnClear entry causes)
  | .attnMask tag entry causes => some (tag, .attnMask entry causes)
  | .nop tag payload => some (tag, .nop payload)
  | .reset tag => some (tag, .reset)
  | .resetPoint => none
  | .spanWriteEnd => none
  | .spanReadEnd => none
  | .inputFrameStart _ => none
  | .inputFrameEnd _ => none
  | .inputLineStart _ => none
  | .inputLineEnd _ => none
  | .pixel _ _ => none
  | .lossTimeout _ => none
  | .grant => none
  | .transferComplete => none
  | .lineStart _ => none

/-- R173, R177: the commands `waiting` are taken in turn from the state `s`, in which no other command waits, while no
command executes and fewer than 8 responses are queued. A command that is not purged does what its frame does (R172),
but that nothing is shifted; what may not be taken waits on. -/
def State.takeWaiting (s : State) : List CmdEntry → State
  | [] => s
  | e :: more =>
    if s.link.executing ≠ none ∨ 8 ≤ s.link.responses.length then { s with link := { s.link with commands := e :: more } }
    else if e.purged = true then
      State.takeWaiting { s with link := s.link.answered e.tag e.code .purged [] } more
    else
      match exec (.commandWrite (commandFrame e.tag e.code e.payload)) s with
      | .next t => State.takeWaiting { t with link := { t.link with sdo := s.link.sdo } } more
      | .fault _ | .refused _ => s

/-- R2: the status a refusal table gives, which is that of its first matching row. A row is a condition with its
status. -/
def Refuses : List (Prop × Status) → Status → Prop
  | [], _ => False
  | (row, status) :: rows, answer => row ∧ answer = status ∨ ¬ row ∧ Refuses rows answer

/-! ## Frame memory -/

/-- R138: the byte a write transfer leaves at address `a`; none where it writes nothing. -/
def Transfer.writes (t : Transfer) (a : Nat) : Option Byte :=
  match t with
  | .ingestWrite _ b _ d | .hostWrite b _ d => if b ≤ a ∧ a < b + 64 then some (d.toList.getD (a - b) 0) else none
  | .portRead .. | .hostRead .. => none

/-! ## A safe run -/

/-- A run of commands, one after another, that ends in no fault and no refusal. -/
inductive Runs : State → List Instr → State → Prop where
  | done (s : State) : Runs s [] s
  | step {s t u : State} {c : Instr} {cs : List Instr} (h : exec c s = .next t) (r : Runs t cs u) : Runs s (c :: cs) u

/-! ## Invariants -/

/-- R170, R173: the bounds of the link record, and a command waits only while none may be taken. -/
structure Link.Ok (l : Link) : Prop where
  commands : l.commands.length ≤ 8
  responses : l.responses.length + l.executing.toList.length ≤ 8
  payloads : ∀ e ∈ l.commands, e.payload.length ≤ 4104
  settled : l.executing = none → l.responses.length < 8 → l.commands = []

/-- R162, R164: an entry holds only causes of its kind, and the line follows the entries. -/
structure Attention.Ok (a : Attention) : Prop where
  pending : ∀ e : EntryId, (a.entry e).pending &&& ~~~ kindCauses e = 0
  enabled : ∀ e : EntryId, (a.entry e).enabled &&& ~~~ kindCauses e = 0
  line : a.line = true ↔ ∃ e : EntryId, (a.entry e).pending &&& (a.entry e).enabled ≠ 0

/-- R88, R98, R99: the write FIFO holds at most 32 bursts; an empty one has neither run nor tail flush, and one that
stands at its normal mark has its run. -/
structure Ingest.FifoOk (g : Ingest) : Prop where
  size : g.fifo.length ≤ 32
  empty : g.fifo = [] → g.run = false ∧ g.tailFlush = false
  run : g.fifo ≠ [] → g.normalMark ≤ g.fifo.length → g.run = true

/-- R4: the owner is none exactly when the state is SPARE. -/
def Video.OwnersOk (v : Video) : Prop := ∀ i : SlotId, (v.slot i).owner = none ↔ (v.slot i).state = .spare

/-- R4, R31: the pools and the owner fields agree, no slot stands twice in a pool, no pool holds more than 8 slots, and
the pool of a CLOSED stream is empty. -/
structure Video.PoolsOk (v : Video) : Prop where
  owners : v.OwnersOk
  member : ∀ (i : SlotId) (st : StreamId), i ∈ (v.stream st).pool ↔ (v.slot i).owner = some st
  nodup : ∀ st : StreamId, (v.stream st).pool.Nodup
  size : ∀ st : StreamId, (v.stream st).pool.length ≤ 8
  closed : ∀ st : StreamId, (v.stream st).state = .closed → (v.stream st).pool = []

/-- R5: byte `a` of frame memory belongs to the region of slot `i`. -/
def Video.inRegion (v : Video) (i : SlotId) (a : Nat) : Prop :=
  ∃ st : StreamId, (v.slot i).owner = some st
    ∧ (v.slot i).base.toNat * 4096 ≤ a
    ∧ a < (v.slot i).base.toNat * 4096 + (v.stream st).pitch * 64 * (v.stream st).height

/-- R6: the region check fails for the joining slot `i`. Its region, with the pitch and height given, leaves frame
memory, or shares a byte with the region of a slot that is not SPARE or with that of another joining slot. -/
def Video.regionFails (v : Video) (pitch height : Nat) (joining : List SlotId) (i : SlotId) : Prop :=
  let len := pitch * 64 * height
  let first := fun j : SlotId => (v.slot j).base.toNat * 4096
  268435456 < first i + len ∨
    (∃ (j : SlotId) (x : StreamId), (v.slot j).owner = some x ∧ (v.slot j).state ≠ .spare ∧
      first i < first j + (v.stream x).pitch * 64 * (v.stream x).height ∧ first j < first i + len) ∨
    ∃ j ∈ joining, j ≠ i ∧ first i < first j + len ∧ first j < first i + len

/-- R5: every region lies inside frame memory, and no two share a byte. -/
structure Video.RegionsOk (v : Video) : Prop where
  inside : ∀ (i : SlotId) (a : Nat), v.inRegion i a → a < 268435456
  apart : ∀ (i j : SlotId) (a : Nat), v.inRegion i a → v.inRegion j a → i = j

/-- R29: the ranges of a stream's geometry. -/
structure Stream.GeometryOk (x : Stream) : Prop where
  bpp : 2 ≤ x.bpp ∧ x.bpp ≤ 4
  width : 16 ≤ x.width ∧ x.width ≤ 4096
  height : 16 ≤ x.height ∧ x.height ≤ 4096
  pitch : 1 ≤ x.pitch ∧ x.pitch ≤ 1024

/-- R29, R88: every stream's geometry is in range, and every packer holds fewer than 64 bytes. -/
structure Video.GeometryOk (v : Video) : Prop where
  streams : ∀ st : StreamId, (v.stream st).GeometryOk
  packers : ∀ p : PortId, (v.input p).packer.length < 64

/-- R108, R135: what an OFF port and its lock unit and windows hold. -/
structure Video.OffOk (v : Video) (p : PortId) : Prop where
  wait : (v.port p).wait = none
  reads : (v.port p).pendingReads = []
  stores : ∀ k : Fin 4, (v.port p).stores[k] = LineStore.free
  pins : (v.port p).pins = OutPins.idle
  lock : (v.lock p).state = .unlocked
  windows : ∀ l : Layer, (v.window (winOf p l)).current = none ∧ (v.window (winOf p l)).fallback = none

/-- R108: every OFF port is idle and holds nothing. -/
def Video.PortsOk (v : Video) : Prop := ∀ p : PortId, (v.port p).on = false → v.OffOk p

/-- R16: readers and holdings agree. A slot that a window reads is FILLING, COMPLETING, READY or DETACHED; a fallback is
READY or DETACHED, is not the current slot, and stands only while the window is CHASING. -/
structure Video.ReadersOk (v : Video) : Prop where
  agree : ∀ (w : WindowId) (i : SlotId), winHas (v.slot i).readers w = true ↔
    (v.window w).current = some i ∨ (v.window w).fallback = some i
  read : ∀ i : SlotId, (v.slot i).readers ≠ 0 → (v.slot i).state ≠ .spare ∧ (v.slot i).state ≠ .empty
  chasing : ∀ w : WindowId, (v.window w).fallback ≠ none → (v.window w).state = .chasing
  fallback : ∀ (w : WindowId) (i : SlotId), (v.window w).fallback = some i →
    (v.window w).current ≠ some i ∧ ((v.slot i).state = .ready ∨ (v.slot i).state = .detached)

/-- R10, R18, R25, R30: who a slot is kept for. The FILLING slot of a stream is its fill target, so a stream has one at
most. A READY slot alone is owed to a window, one in use of the ORDERED stream that owns it. Only a READY or DETACHED
slot is pinned, and the pool of a stream in use keeps two slots that stay beside the pinned ones. A DETACHED slot
belongs to a DRAINING stream. -/
structure Video.CustodyOk (v : Video) : Prop where
  filling : ∀ (i : SlotId) (st : StreamId), (v.slot i).owner = some st → (v.slot i).state = .filling →
    (v.stream st).fillTarget = some i
  owed : ∀ (i : SlotId) (w : WindowId), winHas (v.slot i).owed w = true →
    (v.slot i).state = .ready ∧ (v.port (portOf w)).on = true ∧
      ((v.window w).state = .idle ∨ (v.window w).state = .showing ∨ (v.window w).state = .chasing) ∧
      ∃ st : StreamId, (v.slot i).owner = some st ∧ (v.window w).stream = some st ∧ (v.stream st).delivery = .ordered
  pinned : ∀ i : SlotId, (v.slot i).pinned = true → (v.slot i).state = .ready ∨ (v.slot i).state = .detached
  pins : ∀ st : StreamId, (v.stream st).live = true →
    (v.stream st).pool.countP (fun i => (v.slot i).pinned) + 2 ≤ (v.stream st).pool.countP fun i => !(v.slot i).leaving
  detached : ∀ (i : SlotId) (st : StreamId), (v.slot i).owner = some st → (v.slot i).state = .detached →
    (v.stream st).state = .draining

/-- R10, R16: the holds that keep a slot from being reused. -/
def Slot.held (sl : Slot) : Prop := sl.readers ≠ 0 ∨ sl.owed ≠ 0 ∨ sl.pinned = true

end Sys2Proof.Machine
end

