-- ==== Sys2Proof/Certificates/Slice0/Obligations.lean ====
section
/-! DEFINITION. The statements about the part. A statement that a value or a behaviour of the model's own choosing
enters says so and names the log entry. The host command rows are taken with the link free, as `LinkFree` says; how
they meet a busy link is said once, by the statements about the host link. -/

open Sys2Proof Sys2Proof.Machine

/-! ## The step, the resets and calibration -/

/-- A step carries out the command at the front of the queue on the state with the queue's rest (log 1). -/
def Obligations.StepRunsTheFrontCommand : Prop :=
  ∀ (c : Instr) (s : State), step { s with pending := c :: s.pending } = exec c s

/-- R28, R49, R74, R106, R125, R137, R150, R161, R169, R182: power-on reset leaves every record at its reset value and
keeps every byte of frame memory that no write in flight stores to (the choice for those is log 8). The commands the
model still holds for the part stay (log 25). -/
def Obligations.PowerOnReset : Prop :=
  ∀ s : State, Memory.wf s.mem = true → ∃ t, exec .powerOnReset s = .next t ∧
    (∀ i : SlotId, t.video.slot i =
      { base := 0, owner := none, state := .spare, leaving := false, seq := 0, committed := 0, damage := 0,
        readers := 0, owed := 0, pinned := false, seen := false }) ∧
    (∀ st : StreamId, t.video.stream st =
      { state := .closed, source := none, bpp := 2, width := 16, height := 16, pitch := 1, delivery := .newest,
        discardMask := 0, pool := [], nextSeq := 1, newest := 0, fillTarget := none, published := 0, discarded := 0,
        overflowed := 0, unseen := 0, abandoned := 0, lost := 0 }
      ∧ (t.video.stream st).lineBursts = 1) ∧
    (∀ w : WindowId, t.video.window w =
      { state := .clear, stream := none, x0 := 0, y0 := 0, w := 16, h := 16, dx := 0, dy := 0, hrep := 1, vrep := 1,
        guard := 0, cadence := [1], cursor := 0, holdTarget := 0, shown := 0, current := none, fallback := none,
        readySeq := 0, latches := 0, repeats := 0, underrunLines := 0, chaseFaults := 0 }) ∧
    (∀ p : PortId, t.video.input p = Ingest.reset ∧ (t.video.input p).state = .unbound
      ∧ (t.video.input p).fifo = [] ∧ (t.video.input p).frames = [] ∧ (t.video.input p).target = none
      ∧ (t.video.input p).lossTimeout = 100 ∧ (t.video.input p).normalMark = 8 ∧ (t.video.input p).urgentMark = 24) ∧
    (∀ p : PortId, t.video.port p = Port.reset ∧ (t.video.port p).on = false
      ∧ (t.video.port p).timingValid = false ∧ (t.video.port p).totalLines = 19 ∧ (t.video.port p).frameTotal = 19
      ∧ (t.video.port p).nextTotal = 19 ∧ (t.video.port p).lineLength = 32 ∧ (t.video.port p).pendingReads = []
      ∧ ∀ k : Fin 4, (t.video.port p).stores[k].line = none) ∧
    (∀ p : PortId, t.video.lock p =
      { configured := false, refStream := 0, interval := 1, window := 0, delta := 1, state := .unlocked,
        countdown := 1, firstFrameSeen := false, lastError := 0, samples := 0 }
      ∧ (t.video.lock p).captureLimit = 16) ∧
    (∀ e : EntryId, t.video.attn.entry e = { pending := 0, enabled := 0 }) ∧ t.video.attn.line = false ∧
    t.channel =
      { cal := .calibrating, attempts := 0, urgentPtr := 0, normalPtr := 0, inFlight := [], draining := false,
        urgentGrants := 0, normalGrants := 0, backgroundGrants := 0 } ∧
    t.host =
      { state := .idle, slot := none, startAddr := 0, spanBursts := 1, issued := 0, completed := 0, abort := false,
        buffer := Vector.replicate 64 (Vector.replicate 64 0) } ∧
    t.link.commands = [] ∧ t.link.responses = [] ∧ t.link.executing = none ∧ t.link.faultKind = .none ∧
    t.link.faultTag = 0 ∧ t.pending = s.pending ∧
    ∀ a : Nat, (∀ x ∈ s.channel.inFlight, x.writes a = none) → t.byteAt a = s.byteAt a

/-- R140: the release of the reset and the endings of a calibration attempt, first case by case. -/
def Obligations.CalibrationTable : Prop :=
  ∀ s : State, s.channel.cal = .calibrating →
    (s.channel.attempts = 0 →
      exec .powerOnResetRelease s = .next { s with channel := { s.channel with attempts := 1 } }) ∧
    (1 ≤ s.channel.attempts → s.channel.attempts ≤ 3 →
      exec .calibrationPass s =
        .next { s with channel := { s.channel with cal := .ready }, video := s.video.raise 28 1 }) ∧
    (1 ≤ s.channel.attempts → s.channel.attempts ≤ 2 →
      exec .calibrationFail s =
        .next { s with channel := { s.channel with attempts := s.channel.attempts + 1 } }) ∧
    (s.channel.attempts = 3 →
      exec .calibrationFail s =
        .next { s with channel := { s.channel with cal := .failed }, video := s.video.raise 28 2 })

/-- R150, R179: RESET. With nothing in flight the part takes its soft-reset values at once and RESET is answered OK;
otherwise RESET executes, the channel drains and every output is idle. The link record, the calibration state, the
attempts and frame memory are kept. -/
def Obligations.ResetCommand : Prop :=
  ∀ (s : State) (tag : Byte), LinkFree s →
    (s.channel.inFlight = [] →
      exec (.reset tag) s =
        .next
          { s with
            video := Video.reset
            channel := { Channel.reset with cal := s.channel.cal, attempts := s.channel.attempts }
            host := HostUnit.reset
            link := s.link.answered tag 0x7F .ok [] }) ∧
    (s.channel.inFlight ≠ [] →
      ∃ t, exec (.reset tag) s = .next t ∧
        t =
          { s with
            channel := { s.channel with draining := true }
            video := { s.video with ports := t.video.ports }
            link := { s.link with executing := some { tag := tag, code := 0x7F, payload := [], purged := false } } } ∧
        ∀ p : PortId, t.video.port p =
          { s.video.port p with pins := { pixels := [], fsync := false, lsync := false } })

/-- R150, R173, R177, R179: the reset point of a drain, with the host transfer unit idle. The last transfer in flight
acts on frame memory and its result is discarded; then every block but the link takes its soft-reset values, RESET is
answered OK, and the commands that wait are taken in the same happening as far as they may be. That the row is the last
completion, and leaves a drain that is not about to end as it is, is the model's reading (log 5), as is the moment a
transfer acts on memory (log 7). -/
def Obligations.ResetPoint : Prop :=
  ∀ (s : State) (e : CmdEntry), Memory.wf s.mem = true → s.link.executing = some e →
    (∀ x ∈ s.link.commands, x.payload.length ≤ 4104) → s.host.state = .idle →
    (s.channel.draining = true → s.channel.inFlight.length ≤ 1 →
      (∀ x ∈ s.channel.inFlight, x.addr % 64 = 0 ∧ x.addr + 64 ≤ 268435456) →
      ∃ t : State, exec .resetPoint s = .next (t.takeWaiting s.link.commands) ∧
        t =
          { s with
            video := Video.reset
            channel := { Channel.reset with cal := s.channel.cal, attempts := s.channel.attempts }
            host := HostUnit.reset
            mem := t.mem
            link := { s.link with executing := none, commands := [] }.answered e.tag e.code .ok [] } ∧
        ∀ a : Nat, t.byteAt a = ((s.channel.inFlight.head?.bind fun x => x.writes a).getD (s.byteAt a))) ∧
    (s.channel.draining = false ∨ 2 ≤ s.channel.inFlight.length → exec .resetPoint s = .next s)

/-! ## The host link -/

/-- R171, R172: COMMAND WRITE by the table of link faults, its first matching row. A frame that passes every row and
finds a command executing or eight responses queued is appended to the command queue, not purged. -/
def Obligations.CommandWriteTable : Prop :=
  ∀ (s : State) (bytes : List Byte),
    let s₀ := s.shifted (List.replicate bytes.length 0)
    let n := (bytes.getD 2 0).toNat + 256 * (bytes.getD 3 0).toNat
    let tag := bytes.getD 0 0
    (4 ≤ bytes.length → 4104 < n → exec (.commandWrite bytes) s = .next (s₀.faulted .overlength tag)) ∧
    (bytes.length < 4 → exec (.commandWrite bytes) s = .next (s₀.faulted .truncated tag)) ∧
    (4 ≤ bytes.length → n ≤ 4104 → bytes.length < 5 + n →
      exec (.commandWrite bytes) s = .next (s₀.faulted .truncated tag)) ∧
    (n ≤ 4104 → 5 + n < bytes.length → exec (.commandWrite bytes) s = .next (s₀.faulted .overlength tag)) ∧
    (n ≤ 4104 → bytes.length = 5 + n → (bytes.map BitVec.toNat).sum % 256 ≠ 0 →
      exec (.commandWrite bytes) s = .next (s₀.faulted .checksum tag)) ∧
    (n ≤ 4104 → bytes.length = 5 + n → (bytes.map BitVec.toNat).sum % 256 = 0 →
      (8 ≤ s.link.commands.length → exec (.commandWrite bytes) s = .next (s₀.faulted .queueFull tag)) ∧
      (s.link.commands.length < 8 → s.link.executing ≠ none ∨ 8 ≤ s.link.responses.length →
        exec (.commandWrite bytes) s =
          .next
            { s₀ with
              link :=
                { s₀.link with
                  commands := s.link.commands ++
                    [{ tag := tag, code := bytes.getD 1 0, payload := (bytes.drop 4).take n, purged := false }] } }))

/-- R171, R173 and the sizes of R184: the first byte of a transaction selects COMMAND WRITE, RESPONSE READ, STATUS READ
or ABORT, and any other byte is an unknown type, which is a link fault. A frame whose code is none of the 34, or whose
payload has a wrong size, is accepted and answered BAD_COMMAND or BAD_LENGTH, with no payload and no other effect. A
term of UNKNOWN_TYPE or BAD_COMMAND that names a known type or code names no command of its row, and the model stops on
it (log 31). -/
def Obligations.UnknownTypesCodesAndLengths : Prop :=
  (transaction [] = none ∧ ∀ (first : Byte) (bytes : List Byte),
    transaction (first :: bytes) =
      some
        (if first = 0x10 then .commandWrite bytes
        else if first = 0x20 then .responseRead bytes.length
        else if first = 0x30 then .statusRead bytes.length
        else if first = 0x40 then .abort bytes
        else .unknownType first bytes.length)) ∧
  (∀ (s : State) (t : Byte) (count : Nat),
    (t ∉ [0x10, 0x20, 0x30, 0x40] →
      exec (.unknownType t count) s =
        .next ((s.shifted (List.replicate count 0)).faulted .unknownType 0)) ∧
    (t ∈ [0x10, 0x20, 0x30, 0x40] → exec (.unknownType t count) s = .refused (.illFormed "UNKNOWN_TYPE"))) ∧
  ∀ (s : State) (tag code : Byte) (payload : List Byte),
    let bytes := commandFrame tag code payload
    let s₀ := s.shifted (List.replicate bytes.length 0)
    (argumentSize code ≠ none → exec (.badCommand tag code payload) s = .refused (.illFormed "BAD_COMMAND")) ∧
    (LinkFree s → payload.length ≤ 4104 →
      (argumentSize code = none →
        exec (.badCommand tag code payload) s = .next { s with link := s.link.answered tag code .badCommand [] } ∧
        exec (.commandWrite bytes) s = .next { s₀ with link := s₀.link.answered tag code .badCommand [] }) ∧
      ∀ (n : Nat) (tail : Bool), argumentSize code = some (n, tail) →
        payload.length < n ∨ (tail = false ∧ payload.length ≠ n) →
        exec (.commandWrite bytes) s = .next { s₀ with link := s₀.link.answered tag code .badLength [] })

/-- R172, R173, R175, R177, R184: every host command of the table, sent as the row, does what its frame does when it is
shifted in with the tag, the code and the payload of the command (log 4): the row's term and the frame's bytes agree. A
command that waits, not purged, while eight responses are queued does what its row does, when the read of a response lets
it be taken; the commands behind it wait on. -/
def Obligations.EveryHostRowIsItsFrame : Prop :=
  (∀ (i : Instr) (tag : Byte) (c : HostCmd) (s : State), hostCommand i = some (tag, c) → i.wellFormed = true →
    let bytes := commandFrame tag c.code c.payload
    exec (.commandWrite bytes) s = exec i (s.shifted (List.replicate bytes.length 0))) ∧
  ∀ (i : Instr) (tag : Byte) (c : HostCmd) (s : State) (count : Nat) (r : Response) (rest : List Response)
      (more : List CmdEntry),
    hostCommand i = some (tag, c) → c.payload.length ≤ 4104 → s.link.responses = r :: rest →
    s.link.responses.length = 8 → r.bytes.length ≤ count → s.link.executing = none →
    s.link.commands = { tag := tag, code := c.code, payload := c.payload, purged := false } :: more →
    let s₀ := s.shifted ((List.range count).map fun k => r.bytes.getD k 0xFF)
    ∃ t, exec i { s₀ with link := { s₀.link with responses := rest, commands := [] } } = .next t ∧
      exec (.responseRead count) s = .next { t with link := { t.link with commands := more } }

/-- R173, R183, R184: the code and the payload of a host command are taken apart into that command again, with every
argument at every value. -/
def Obligations.PayloadsDecode : Prop :=
  ∀ c : HostCmd, parseCmd c.code c.payload = .cmd c

/-- R175, and R173 for the command that the removal of a response lets be taken. `count` bytes are shifted out, FFh
after the frame's last byte. -/
def Obligations.ResponseRead : Prop :=
  ∀ (s : State) (count : Nat),
    (s.link.responses = [] →
      exec (.responseRead count) s = .next (s.shifted (List.replicate count 0xFF))) ∧
    ∀ (r : Response) (rest : List Response), s.link.responses = r :: rest →
      let out := (List.range count).map fun k => r.bytes.getD k 0xFF
      let s₀ := s.shifted out
      (count < r.bytes.length → exec (.responseRead count) s = .next s₀) ∧
      (r.bytes.length ≤ count → s.link.executing ≠ none ∨ s.link.commands = [] →
        exec (.responseRead count) s = .next { s₀ with link := { s₀.link with responses := rest } }) ∧
      (r.bytes.length ≤ count → s.link.executing = none → s.link.responses.length = 8 →
        ∀ (e : CmdEntry) (more : List CmdEntry), s.link.commands = e :: more → e.purged = true →
          exec (.responseRead count) s =
            .next
              { s₀ with
                link := { s₀.link with responses := rest, commands := more }.answered e.tag e.code .purged [] })

/-- R176 and the status byte of section 11.9: STATUS READ shifts out the five bytes, FFh after them, and changes no
record. -/
def Obligations.StatusReadBytes : Prop :=
  ∀ (s : State) (count : Nat), ∃ b₀ : Byte,
    b₀.toNat =
      (if s.video.attn.line then 1 else 0)
        + 2 * (match s.channel.cal with | .calibrating => 0 | .ready => 1 | .failed => 2)
        + (if s.link.executing = none then 0 else 8) ∧
    exec (.statusRead count) s =
      .next
        (s.shifted
          ((List.range count).map fun k =>
            [b₀, BitVec.ofNat 8 (8 - s.link.commands.length), BitVec.ofNat 8 s.link.responses.length,
              (match s.link.faultKind with
                | .none => 0 | .truncated => 1 | .overlength => 2 | .checksum => 3 | .queueFull => 4 | .unknownType => 5),
              s.link.faultTag].getD k 0xFF))

/-- R159, R178: ABORT. Without a flag byte it is a link fault. With one, purge marks every waiting command, and a span
in progress is aborted: it ends at once, answered ABORTED, when every issued burst has completed. The command that
waits next is then carried out as its row (log 4), or answered PURGED when it is marked (R173, R177); that the purge
comes before the end of the span is the model's reading (log 33), as is that the ended span's address and length stay in
the unit's record (log 27). Bytes after the flag byte change nothing (log 18). The end of an aborted span whose issued
bursts complete later is stated with the spans. -/
def Obligations.AbortTable : Prop :=
  ∀ s : State,
    exec (.abort []) s = .next ((s.shifted []).faulted .truncated 0) ∧
    ∀ (flag : Byte) (more : List Byte),
      let s₀ := s.shifted (List.replicate (more.length + 1) 0)
      let queued := s.link.commands.map fun e => { e with purged := flag.getLsbD 0 || e.purged }
      (s.host.state = .idle →
        exec (.abort (flag :: more)) s = .next { s₀ with link := { s₀.link with commands := queued } }) ∧
      (s.host.state ≠ .idle → s.host.completed ≠ s.host.issued →
        exec (.abort (flag :: more)) s =
          .next { s₀ with link := { s₀.link with commands := queued }, host := { s.host with abort := true } }) ∧
      (s.host.state ≠ .idle → s.host.completed = s.host.issued → ∀ e : CmdEntry, s.link.executing = some e →
        let ended :=
          { s₀ with
            host := { s.host with state := .idle, slot := none, issued := 0, completed := 0, abort := false }
            link :=
              { s₀.link with executing := none, commands := [] }.answered e.tag e.code .aborted
                (if s.host.state = HostState.writing then natBytes16 (s.host.issued * 64) else []) }
        (s.link.commands = [] → exec (.abort (flag :: more)) s = .next ended) ∧
        ∀ (i : Instr) (tag : Byte) (c : HostCmd) (purged : Bool), hostCommand i = some (tag, c) →
          c.payload.length ≤ 4104 → s.link.responses.length < 7 →
          s.link.commands = [{ tag := tag, code := c.code, payload := c.payload, purged := purged }] →
          exec (.abort (flag :: more)) s =
            if (flag.getLsbD 0 || purged) = true then
              .next { ended with link := ended.link.answered tag c.code .purged [] }
            else exec i ended)

/-- R170, R172, R173, R177: the bounds of the queues, and no command waits while it may be taken, whatever the part is
given. -/
def Obligations.LinkKept : Prop :=
  ∀ s t : State, s.link.Ok → step s = .next t → t.link.Ok

/-- R174: every accepted command is answered by one response, in the order of acceptance, and nothing but power-on
reset discards one: a command leaves the line of commands only as the response that RESPONSE READ removes, and joins
it only at its end. A response frame has the bytes of section 11.9, which sum to 0 modulo 256. -/
def Obligations.OrderKept : Prop :=
  (∀ (c : Instr) (s t : State), exec c s = .next t → c ≠ .powerOnReset →
    ∃ (removed : Nat) (added : List (Byte × Byte)),
      t.link.line = s.link.line.drop removed ++ added ∧ removed ≤ 1 ∧ added.length ≤ 1 ∧
      (removed = 1 → s.link.responses ≠ [] ∧ ∃ count, c = .responseRead count) ∧
      (added ≠ [] →
        (∃ bytes, c = .commandWrite bytes) ∨ (∃ tag code payload, c = .badCommand tag code payload)
          ∨ hostCommand c ≠ none)) ∧
  ∀ r : Response, r.payload.length < 65536 →
    ∃ check : Byte,
      r.bytes =
        [r.tag, r.code, r.status.code, BitVec.ofNat 8 (r.payload.length % 256), BitVec.ofNat 8 (r.payload.length / 256)]
          ++ r.payload ++ [check] ∧
      (r.bytes.map BitVec.toNat).sum % 256 = 0

/-- R163, R164, R165, R166, R167: a raise makes its cause pending, whatever the enabled set. ATTN_READ lists the
entries with a pending cause, ATTN_CLEAR takes causes out of one pending set, ATTN_MASK replaces one enabled set. The
line follows in the same happening, and the other entries and every other record stay. -/
def Obligations.AttentionChanges : Prop :=
  let follows := fun a : Attention =>
    a.line = true ↔ ∃ f : EntryId, (a.entry f).pending &&& (a.entry f).enabled ≠ 0
  (∀ (v : Video) (e : EntryId) (cause : CauseSet), ∃ a : Attention,
    v.raise e cause = { v with attn := a } ∧
    a.entry e = { v.attn.entry e with pending := (v.attn.entry e).pending ||| cause } ∧
    (∀ f : EntryId, f ≠ e → a.entry f = v.attn.entry f) ∧ follows a) ∧
  ∀ (s : State) (tag : Byte), LinkFree s →
    exec (.attnRead tag) s =
      .next
        (s.carriedOut tag 0x70
          (((List.finRange 29).filter fun e => (s.video.attn.entry e).pending != 0).flatMap fun e =>
            [BitVec.ofNat 8 e.val, (s.video.attn.entry e).pending, (s.video.attn.entry e).enabled])
          s.video) ∧
    ∀ (e : EntryId) (causes : Byte), (if e.val < 8 then causes.toNat < 32 else causes.toNat < 8) →
      (∃ a : Attention,
        exec (.attnClear tag (natByte e.val) causes) s =
          .next (s.carriedOut tag 0x71 [] { s.video with attn := a }) ∧
        a.entry e = { s.video.attn.entry e with pending := (s.video.attn.entry e).pending &&& ~~~ causes } ∧
        (∀ f : EntryId, f ≠ e → a.entry f = s.video.attn.entry f) ∧ follows a) ∧
      ∃ a : Attention,
        exec (.attnMask tag (natByte e.val) causes) s =
          .next (s.carriedOut tag 0x72 [] { s.video with attn := a }) ∧
        a.entry e = { s.video.attn.entry e with enabled := causes } ∧
        (∀ f : EntryId, f ≠ e → a.entry f = s.video.attn.entry f) ∧ follows a

/-- R162, R164: every entry holds only causes of its kind, the ATTN line is asserted exactly when some entry has a
cause that is both pending and enabled, and every step keeps it so. -/
def Obligations.AttnKept : Prop :=
  ∀ s t : State, s.video.attn.Ok → step s = .next t → t.video.attn.Ok

/-- R2, R141 and the refusal tables: a refused host command changes no state and its response carries no payload;
NO_SLOT is the answer of a FRAME_BEGIN that was carried out (R153), not of a refused one. A command taken is answered
by the first row of its command's refusal table that matches, row by row as the tables stand. NOT_READY, while the
channel is not READY, is the answer at the place of its row. A selection of NEWEST for a stream whose newest frame has
no READY slot finds none. -/
def Obligations.Refusals : Prop :=
  (∀ (c : HostCmd) (s s' : State) (status : Status) (payload : List Byte),
    runCmd c s = .done s' status payload → status ≠ .ok →
    payload = [] ∧ (status ≠ .noSlot → s' = s) ∧ (status = .noSlot → ∃ stream, c = .frameBegin stream)) ∧
  (∀ (s : State) (tag : Byte), LinkFree s → s.channel.cal ≠ .ready →
    (∀ p : PortId, (s.video.port p).on = false → (s.video.port p).timingValid = true →
      exec (.portOn tag (natByte p.val)) s = .next { s with link := s.link.answered tag 0x41 .notReady [] }) ∧
    (∀ st : StreamId,
      exec (.frameBegin tag (natByte st.val)) s = .next { s with link := s.link.answered tag 0x60 .notReady [] }) ∧
    (∀ (st : StreamId) (line offset length : BitVec 16) (data : List Byte), data.length ≤ 4096 →
      exec (.spanWrite tag (natByte st.val) line offset length data) s =
        .next { s with link := s.link.answered tag 0x61 .notReady [] }) ∧
    (∀ (i : SlotId) (line offset length : BitVec 16),
      exec (.spanRead tag (natByte i.val) line offset length) s =
        .next { s with link := s.link.answered tag 0x64 .notReady [] }) ∧
    (∀ (st : StreamId) (i : SlotId), (s.video.stream st).live = true → (s.video.stream st).pool.length < 8 →
      (s.video.slot i).state = .spare →
      s.video.regionCheck (s.video.stream st).pitch (s.video.stream st).height [i] = true →
      exec (.poolGrow tag (natByte st.val) (natByte i.val)) s =
        .next { s with link := s.link.answered tag 0x14 .notReady [] })) ∧
  ∀ (s : State) (tag : Byte) (status : Status), LinkFree s →
    let refused := fun code : Byte => Host.Outcome.next { s with link := s.link.answered tag code status [] }
    let notReady := s.channel.cal ≠ .ready
    -- the slot commands (section 1.8)
    (∀ (slot : Byte) (base : BitVec 16),
      Refuses
        [(64 ≤ slot.toNat, .badArg),
          (∃ i : SlotId, i.val = slot.toNat ∧ (s.video.slot i).state ≠ .spare, .badState)] status →
      exec (.slotBase tag slot base) s = refused 0x01) ∧
    (∀ slot : Byte, Refuses [(64 ≤ slot.toNat, .badArg)] status → exec (.slotQuery tag slot) s = refused 0x02) ∧
    (∀ (selector arg : Byte) (seq : BitVec 32),
      let full := fun i : SlotId => ∃ st : StreamId, (s.video.slot i).owner = some st ∧
        (s.video.stream st).pool.countP (fun j => !(s.video.slot j).leaving)
          ≤ (s.video.stream st).pool.countP (fun j => (s.video.slot j).pinned) + 2
      (2 < selector.toNat → Refuses [(True, .badArg)] status → exec (.pin tag selector arg seq) s = refused 0x03) ∧
      (selector.toNat < 2 →
        (8 ≤ arg.toNat → Refuses [(True, .badArg)] status → exec (.pin tag selector arg seq) s = refused 0x03) ∧
        ∀ st : StreamId, st.val = arg.toNat →
          let found := fun i : SlotId =>
            (selector = 0 → s.video.newestReady st = some i) ∧
            (selector = 1 → seq ≠ 0 ∧ s.video.readyWith st seq = some i)
          Refuses
            [((s.video.stream st).live = false, .badState),
              (∀ i : SlotId, ¬ found i, .notFound),
              (∃ i : SlotId, found i ∧ (s.video.slot i).pinned = true, .badState),
              (∃ i : SlotId, found i ∧ full i, .limit)] status →
          exec (.pin tag selector arg seq) s = refused 0x03) ∧
      (selector = 2 →
        (16 ≤ arg.toNat → Refuses [(True, .badArg)] status → exec (.pin tag selector arg seq) s = refused 0x03) ∧
        ∀ w : WindowId, w.val = arg.toNat →
          let found := fun i : SlotId => (s.video.window w).current = some i
          Refuses
            [((s.video.window w).state = .chasing, .badState),
              ((s.video.window w).current = none, .notFound),
              (∃ i : SlotId, found i ∧ (s.video.slot i).state ≠ .ready, .badState),
              (∃ i : SlotId, found i ∧ (s.video.slot i).pinned = true, .badState),
              (∃ i : SlotId, found i ∧ full i, .limit)] status →
          exec (.pin tag selector arg seq) s = refused 0x03)) ∧
    (∀ slot : Byte,
      Refuses
        [(64 ≤ slot.toNat, .badArg),
          (∃ i : SlotId, i.val = slot.toNat ∧ (s.video.slot i).pinned = false, .badState)] status →
      exec (.unpin tag slot) s = refused 0x04) ∧
    -- the stream commands (section 2.8)
    (∀ (stream source bpp : Byte) (width height pitch : BitVec 16) (delivery mask : Byte) (pool : List Byte),
      pool.length ≤ 4093 →
      let listed := pool.filterMap slotOf
      Refuses
        [(8 ≤ stream.toNat, .badArg),
          (∃ st : StreamId, st.val = stream.toNat ∧ (s.video.stream st).state ≠ .closed, .badState),
          (4 < source.toNat, .badArg),
          (∃ (p : PortId) (x : StreamId), p.val = source.toNat ∧ x.val ≠ stream.toNat ∧
            (s.video.stream x).source = some (.input p) ∧ (s.video.stream x).state ≠ .closed, .badState),
          (bpp.toNat < 2 ∨ 4 < bpp.toNat ∨ width.toNat < 16 ∨ 4096 < width.toNat ∨ height.toNat < 16 ∨
            4096 < height.toNat ∨ pitch.toNat < 1 ∨ 1024 < pitch.toNat ∨
            pitch.toNat < (width.toNat * bpp.toNat + 63) / 64, .badArg),
          (1 < delivery.toNat ∨ 16 ≤ mask.toNat, .badArg),
          (pool.length < 2 ∨ 8 < pool.length ∨ (∃ b ∈ pool, 64 ≤ b.toNat) ∨ ¬ pool.Nodup, .badArg),
          (∃ i ∈ listed, (s.video.slot i).state ≠ .spare, .badState),
          (∃ i ∈ listed, s.video.regionFails pitch.toNat height.toNat listed i, .overlap),
          (notReady, .notReady)] status →
      exec (.streamOpen tag stream source bpp width height pitch delivery mask pool) s = refused 0x10) ∧
    (∀ stream : Byte,
      (8 ≤ stream.toNat → Refuses [(True, .badArg)] status →
        exec (.streamStart tag stream) s = refused 0x11 ∧ exec (.streamStopAfterFrame tag stream) s = refused 0x12 ∧
        exec (.streamStopNow tag stream) s = refused 0x12 ∧ exec (.streamClose tag stream) s = refused 0x13) ∧
      ∀ st : StreamId, st.val = stream.toNat →
        let state := (s.video.stream st).state
        (Refuses [(state ≠ .opened, .badState)] status → exec (.streamStart tag stream) s = refused 0x11) ∧
        (Refuses [(state = .closed ∨ state = .opened ∨ state = .draining, .badState), (state = .stopping, .badState)]
            status →
          exec (.streamStopAfterFrame tag stream) s = refused 0x12) ∧
        (Refuses [(state = .closed ∨ state = .opened ∨ state = .draining, .badState)] status →
          exec (.streamStopNow tag stream) s = refused 0x12) ∧
        (Refuses [(state = .closed ∨ state = .draining, .badState)] status →
          exec (.streamClose tag stream) s = refused 0x13)) ∧
    (∀ stream mode : Byte, 2 ≤ mode.toNat → status = .badArg →
      let s₀ := s.shifted (List.replicate 7 0)
      exec (.commandWrite (commandFrame tag 0x12 [stream, mode])) s =
        .next { s₀ with link := s₀.link.answered tag 0x12 .badArg [] }) ∧
    (∀ stream slot : Byte,
      (8 ≤ stream.toNat ∨ 64 ≤ slot.toNat → Refuses [(True, .badArg)] status →
        exec (.poolGrow tag stream slot) s = refused 0x14 ∧ exec (.poolShrink tag stream slot) s = refused 0x15) ∧
      ∀ (st : StreamId) (i : SlotId), st.val = stream.toNat → i.val = slot.toNat →
        let x := s.video.stream st
        let others := x.pool.countP fun j => decide (j ≠ i) && !(s.video.slot j).leaving
        (Refuses
            [(x.state = .closed ∨ x.state = .draining, .badState),
              (8 ≤ x.pool.length, .limit),
              ((s.video.slot i).state ≠ .spare, .badState),
              (s.video.regionFails x.pitch x.height [i] i, .overlap),
              (notReady, .notReady)] status →
          exec (.poolGrow tag stream slot) s = refused 0x14) ∧
        (Refuses
            [(x.state = .closed ∨ x.state = .draining, .badState),
              (i ∉ x.pool, .notFound),
              ((s.video.slot i).leaving = false ∧
                (others < 2 ∨ others < x.pool.countP (fun j => (s.video.slot j).pinned) + 2), .limit)] status →
          exec (.poolShrink tag stream slot) s = refused 0x15)) ∧
    -- the queries with an option (sections 2.8, 3.9, 5.11, 6.7, 8.8)
    (∀ number option : Byte,
      (Refuses [(8 ≤ number.toNat ∨ 1 < option.toNat, .badArg)] status →
        exec (.streamQuery tag number option) s = refused 0x16) ∧
      (Refuses [(16 ≤ number.toNat ∨ 1 < option.toNat, .badArg)] status →
        exec (.windowQuery tag number option) s = refused 0x23) ∧
      (Refuses [(4 ≤ number.toNat ∨ 1 < option.toNat, .badArg)] status →
        exec (.ingestQuery tag number option) s = refused 0x31 ∧
        exec (.portQuery tag number option) s = refused 0x43) ∧
      (Refuses [(1 < option.toNat, .badArg)] status → exec (.memoryQuery tag option) s = refused 0x50)) ∧
    -- the window commands (section 3.9)
    (∀ (window stream : Byte) (x0 y0 w h dx dy : BitVec 16) (hrep vrep guard : Byte),
      let port := fun k : WindowId => s.video.port (portOf k)
      Refuses
        [(16 ≤ window.toNat ∨ 8 ≤ stream.toNat, .badArg),
          (4095 < x0.toNat ∨ 4095 < y0.toNat ∨ w.toNat < 1 ∨ 4096 < w.toNat ∨ h.toNat < 1 ∨ 4096 < h.toNat ∨
            4096 < x0.toNat + w.toNat ∨ 4096 < y0.toNat + h.toNat, .badArg),
          (hrep ≠ 1 ∧ hrep ≠ 2 ∨ vrep ≠ 1 ∧ vrep ≠ 2, .badArg),
          (∃ k : WindowId, k.val = window.toNat ∧ (port k).timingValid = false, .badState),
          (∃ k : WindowId, k.val = window.toNat ∧
            ((port k).activeWidth ≤ dx.toNat ∨ (port k).activeLines ≤ dy.toNat), .badArg)] status →
      exec (.windowSet tag window stream x0 y0 w h dx dy hrep vrep guard) s = refused 0x20) ∧
    (∀ (window : Byte) (counts : List Byte), counts.length ≤ 4103 →
      Refuses
        [(16 ≤ window.toNat, .badArg),
          (counts.length < 1 ∨ 16 < counts.length ∨ ∃ c ∈ counts, c.toNat < 1 ∨ 15 < c.toNat, .badArg)] status →
      exec (.cadenceSet tag window counts) s = refused 0x21) ∧
    (∀ window : Byte, Refuses [(16 ≤ window.toNat, .badArg)] status → exec (.windowClear tag window) s = refused 0x22) ∧
    -- the ingest, scan-out port and lock commands (sections 5.11, 6.7, 7.7)
    (∀ port lossTimeout normal urgent : Byte,
      Refuses
        [(4 ≤ port.toNat, .badArg), (lossTimeout.toNat < 1, .badArg), (normal.toNat < 1 ∨ 32 < normal.toNat, .badArg),
          (urgent.toNat < normal.toNat ∨ 32 < urgent.toNat, .badArg)] status →
      exec (.ingestSet tag port lossTimeout normal urgent) s = refused 0x30) ∧
    (∀ (port bpp : Byte) (width lines : BitVec 16) (topBlank : Byte) (total length : BitVec 16)
        (border underrun : BitVec 32) (urgentLead : Byte),
      Refuses
        [(4 ≤ port.toNat, .badArg),
          (∃ p : PortId, p.val = port.toNat ∧ (s.video.port p).on = true, .badState),
          (bpp.toNat < 2 ∨ 4 < bpp.toNat ∨ width.toNat < 16 ∨ 4096 < width.toNat ∨ lines.toNat < 16 ∨
            4096 < lines.toNat ∨ topBlank.toNat < 2, .badArg),
          (total.toNat < topBlank.toNat + lines.toNat + 1 ∨ 8191 < total.toNat ∨
            length.toNat < width.toNat + 16 ∨ 16383 < length.toNat, .badArg),
          (2 < urgentLead.toNat, .badArg)] status →
      exec (.portSet tag port bpp width lines topBlank total length border underrun urgentLead) s = refused 0x40) ∧
    (∀ port : Byte,
      (4 ≤ port.toNat → Refuses [(True, .badArg)] status →
        exec (.portOn tag port) s = refused 0x41 ∧ exec (.portOff tag port) s = refused 0x42 ∧
        exec (.lockClear tag port) s = refused 0x49) ∧
      ∀ p : PortId, p.val = port.toNat →
        (Refuses
            [((s.video.port p).on = true, .badState), ((s.video.port p).timingValid = false, .badState),
              (notReady, .notReady)] status →
          exec (.portOn tag port) s = refused 0x41) ∧
        (Refuses [((s.video.port p).on = false, .badState)] status → exec (.portOff tag port) s = refused 0x42)) ∧
    (∀ port stream n w d : Byte,
      let pt := fun p : PortId => s.video.port p
      Refuses
        [(4 ≤ port.toNat ∨ 8 ≤ stream.toNat, .badArg),
          (n.toNat < 1 ∨ 16 < n.toNat ∨ d.toNat < 1 ∨ 15 < d.toNat, .badArg),
          (∃ p : PortId, p.val = port.toNat ∧ (pt p).timingValid = false, .badState),
          (∃ p : PortId, p.val = port.toNat ∧
            ((pt p).totalLines < (pt p).topBlank + (pt p).activeLines + 1 + d.toNat ∨
              8191 < (pt p).totalLines + d.toNat), .badArg)] status →
      exec (.lockSet tag port stream n w d) s = refused 0x48) ∧
    -- the host frame commands (sections 9.3.1 to 9.3.4 and 9.4.1)
    (∀ stream : Byte,
      (8 ≤ stream.toNat → Refuses [(True, .badArg)] status →
        exec (.frameBegin tag stream) s = refused 0x60 ∧ exec (.framePublish tag stream) s = refused 0x62 ∧
        exec (.frameAbandon tag stream) s = refused 0x63) ∧
      ∀ st : StreamId, st.val = stream.toNat →
        let x := s.video.stream st
        (Refuses
            [(notReady, .notReady), (x.source ≠ some .host, .badState), (x.state ≠ .running, .badState),
              (x.fillTarget ≠ none, .badState)] status →
          exec (.frameBegin tag stream) s = refused 0x60) ∧
        (Refuses
            [(x.source ≠ some .host ∨ x.state ≠ .running ∧ x.state ≠ .stopping, .badState),
              (x.fillTarget = none, .badState)] status →
          exec (.framePublish tag stream) s = refused 0x62 ∧ exec (.frameAbandon tag stream) s = refused 0x63)) ∧
    (∀ (stream : Byte) (line offset length : BitVec 16) (data : List Byte), data.length ≤ 4097 →
      let on := fun row : Stream → Prop => ∃ st : StreamId, st.val = stream.toNat ∧ row (s.video.stream st)
      Refuses
        [(8 ≤ stream.toNat, .badArg), (notReady, .notReady),
          (on fun x => x.source ≠ some .host ∨ x.state ≠ .running ∧ x.state ≠ .stopping, .badState),
          (on fun x => x.fillTarget = none, .badState),
          (offset.toNat % 64 ≠ 0 ∨ length.toNat % 64 ≠ 0 ∨ length.toNat < 64 ∨ 4096 < length.toNat, .badArg),
          (data.length ≠ length.toNat, .badLength),
          (on fun x => x.height ≤ line.toNat ∨ x.pitch * 64 < offset.toNat + length.toNat, .badArg)] status →
      exec (.spanWrite tag stream line offset length data) s = refused 0x61) ∧
    (∀ (slot : Byte) (line offset length : BitVec 16),
      let on := fun row : Slot → Prop => ∃ i : SlotId, i.val = slot.toNat ∧ row (s.video.slot i)
      Refuses
        [(64 ≤ slot.toNat, .badArg), (notReady, .notReady),
          (on fun sl => sl.pinned = false, .badState),
          (on fun sl => sl.state ≠ .ready ∧ sl.state ≠ .detached, .badState),
          (offset.toNat % 64 ≠ 0 ∨ length.toNat % 64 ≠ 0 ∨ length.toNat < 64 ∨ 4096 < length.toNat, .badArg),
          (on fun sl => ∃ st : StreamId, sl.owner = some st ∧
            ((s.video.stream st).height ≤ line.toNat ∨
              (s.video.stream st).pitch * 64 < offset.toNat + length.toNat), .badArg)] status →
      exec (.spanRead tag slot line offset length) s = refused 0x64) ∧
    -- the attention commands (section 10.4)
    ∀ entry causes : Byte,
      Refuses
        [(28 < entry.toNat, .badArg),
          (if entry.toNat < 8 then 32 ≤ causes.toNat else 8 ≤ causes.toNat, .badArg)] status →
      exec (.attnClear tag entry causes) s = refused 0x71 ∧ exec (.attnMask tag entry causes) s = refused 0x72

/-! ## Frame slots (Chapter 1) -/

/-- R23, R24: SLOT_BASE writes the base of a SPARE slot and nothing else, whatever the base; SLOT_QUERY answers with the
record of section 11.9 and changes nothing. -/
def Obligations.SlotBaseAndQuery : Prop :=
  ∀ (s : State) (tag : Byte) (i : SlotId), LinkFree s →
    (∀ base : BitVec 16, (s.video.slot i).state = .spare →
      exec (.slotBase tag (natByte i.val) base) s =
        .next (s.carriedOut tag 0x01 [] (s.video.setSlot i { s.video.slot i with base := base }))) ∧
    ∃ flags : Byte,
      flags.toNat =
        (if (s.video.slot i).leaving then 1 else 0) + (if (s.video.slot i).pinned then 2 else 0)
          + (if (s.video.slot i).seen then 4 else 0) ∧
      exec (.slotQuery tag (natByte i.val)) s =
        .next
          (s.carriedOut tag 0x02
            ([BitVec.ofNat 8 i.val, (s.video.slot i).state.number, flags,
                match (s.video.slot i).owner with | some st => BitVec.ofNat 8 st.val | none => 0xFF]
              ++ bytes16 (s.video.slot i).base ++ bytes32 (s.video.slot i).seq
              ++ natBytes16 (s.video.slot i).committed ++ [(s.video.slot i).damage.setWidth 8]
              ++ bytes16 (s.video.slot i).readers ++ bytes16 (s.video.slot i).owed)
            s.video)

/-- R25: PIN by each selector. The slot selected is pinned and named with its sequence; nothing else changes. LIMIT
keeps two slots that are not leaving unpinned. -/
def Obligations.PinResults : Prop :=
  ∀ (s : State) (tag : Byte) (st : StreamId) (i : SlotId), LinkFree s →
    (s.video.slot i).state = .ready → (s.video.slot i).owner = some st → (s.video.slot i).pinned = false →
    let staying := (s.video.stream st).pool.countP fun j => !(s.video.slot j).leaving
    let pins := (s.video.stream st).pool.countP fun j => (s.video.slot j).pinned
    let pinned :=
      s.carriedOut tag 0x03 (natByte i.val :: bytes32 (s.video.slot i).seq)
        (s.video.setSlot i { s.video.slot i with pinned := true })
    let limit := { s with link := s.link.answered tag 0x03 .limit [] }
    let answer := if pins + 2 < staying then pinned else limit
    (∀ seq : BitVec 32, (s.video.stream st).live = true → s.video.newestReady st = some i →
      exec (.pin tag 0 (natByte st.val) seq) s = .next answer) ∧
    ((s.video.stream st).live = true → (s.video.slot i).seq ≠ 0 → i ∈ (s.video.stream st).pool →
      (∀ j ∈ (s.video.stream st).pool, (s.video.slot j).state = .ready →
        (s.video.slot j).seq = (s.video.slot i).seq → j = i) →
      exec (.pin tag 1 (natByte st.val) (s.video.slot i).seq) s = .next answer) ∧
    (∀ (w : WindowId) (seq : BitVec 32), (s.video.window w).state ≠ .chasing →
      (s.video.window w).current = some i → exec (.pin tag 2 (natByte w.val) seq) s = .next answer)

/-- R9, R26, R35: UNPIN of a READY or DETACHED slot. A leaving READY slot that nothing else holds and that is not the
newest departs, and so does a DETACHED slot without readers, whose departure ends the drain when it is the last. Either
counts as unseen when no window ever latched its frame (for a DETACHED slot the model's reading of R35, log 41). Every
other slot only loses its pin. -/
def Obligations.UnpinResults : Prop :=
  ∀ (s : State) (tag : Byte) (i : SlotId), LinkFree s → (s.video.slot i).pinned = true →
    let sl := s.video.slot i
    (sl.state = .ready → sl.leaving = false →
      exec (.unpin tag (natByte i.val)) s =
        .next (s.carriedOut tag 0x04 [] (s.video.setSlot i { sl with pinned := false }))) ∧
    (sl.state = .ready →
      sl.readers ≠ 0 ∨ sl.owed ≠ 0 ∨ (∃ st : StreamId, sl.owner = some st ∧ sl.seq = (s.video.stream st).newest) →
      exec (.unpin tag (natByte i.val)) s =
        .next (s.carriedOut tag 0x04 [] (s.video.setSlot i { sl with pinned := false }))) ∧
    (sl.state = .detached → sl.readers ≠ 0 →
      exec (.unpin tag (natByte i.val)) s =
        .next (s.carriedOut tag 0x04 [] (s.video.setSlot i { sl with pinned := false }))) ∧
    ∀ st : StreamId, sl.owner = some st → sl.readers = 0 →
      let x := { s.video.stream st with
        unseen := if sl.seen then (s.video.stream st).unseen else satInc (s.video.stream st).unseen }
      let gone : Slot :=
        { base := sl.base, owner := none, state := .spare, leaving := false, seq := 0, committed := 0, damage := 0,
          readers := 0, owed := 0, pinned := false, seen := false }
      (x.state ≠ .draining → sl.state = .ready → sl.leaving = true → sl.owed = 0 → sl.seq ≠ x.newest →
        exec (.unpin tag (natByte i.val)) s =
          .next
            (s.carriedOut tag 0x04 []
              ((s.video.setSlot i gone).setStream st { x with pool := x.pool.filter (· != i) }))) ∧
      (x.state = .draining → sl.state = .detached →
        exec (.unpin tag (natByte i.val)) s =
          .next
            (s.carriedOut tag 0x04 []
              (if x.pool.all (· = i) then
                ((s.video.setSlot i gone).setStream st { x with pool := [], state := .closed }).raise (streamEntry st) 16
              else (s.video.setSlot i gone).setStream st { x with pool := x.pool.filter (· != i) })))

/-- R7, R8, R10: a take chooses the first EMPTY slot of the pool that is not leaving, else the oldest READY slot that
nothing holds and that is neither the newest nor leaving; it gives the slot the next sequence and touches nothing
else. With such a slot it succeeds. Without one, or while the stream has a FILLING slot, nothing changes. -/
def Obligations.TakeClaim : Prop :=
  ∀ (v : Video) (st : StreamId),
    let empty := fun j : SlotId => decide ((v.slot j).state = .empty ∧ (v.slot j).leaving = false)
    let reusable := fun j : SlotId =>
      (v.slot j).state = .ready ∧ ¬ (v.slot j).held ∧ (v.slot j).seq ≠ (v.stream st).newest ∧ (v.slot j).leaving = false
    ((∃ i ∈ (v.stream st).pool, (v.slot i).state = .filling) → v.take st = (v, .refused)) ∧
    ((∀ i ∈ (v.stream st).pool, (v.slot i).state ≠ .filling) →
      (((∀ i ∈ (v.stream st).pool, (v.slot i).state = .empty → (v.slot i).leaving = true) →
        (∀ i ∈ (v.stream st).pool, (v.slot i).state = .ready →
          (v.slot i).held ∨ (v.slot i).seq = (v.stream st).newest ∨ (v.slot i).leaving = true) →
        v.take st = (v, .noTarget)) ∧
      (∀ i : SlotId, (v.stream st).pool.find? empty = some i →
        ∃ v' : Video, v.take st = (v', .taken i (v.stream st).nextSeq)) ∧
      ((v.stream st).pool.find? empty = none →
        ((∃ m ∈ (v.stream st).pool, reusable m) →
          ∃ (v' : Video) (i : SlotId), v.take st = (v', .taken i (v.stream st).nextSeq)) ∧
        ∀ m ∈ (v.stream st).pool, reusable m →
          (∀ j ∈ (v.stream st).pool, reusable j → j ≠ m → seqNewer (v.slot j).seq (v.slot m).seq = true) →
          ∃ v' : Video, v.take st = (v', .taken m (v.stream st).nextSeq)) ∧
      ∀ (v' : Video) (i : SlotId) (q : Seq), v.take st = (v', .taken i q) →
        i ∈ (v.stream st).pool ∧ (v.slot i).leaving = false ∧ q = (v.stream st).nextSeq ∧
        ((v.stream st).pool.find? empty = some i ∨
          (∀ j ∈ (v.stream st).pool, (v.slot j).state = .empty → (v.slot j).leaving = true) ∧ reusable i ∧
            ∀ m ∈ (v.stream st).pool,
              (∀ j ∈ (v.stream st).pool, reusable j → j ≠ m → seqNewer (v.slot j).seq (v.slot m).seq = true) →
              reusable m → i = m) ∧
        v' =
          (v.setSlot i
            { v.slot i with
              state := .filling, seq := q, committed := 0, damage := 0, readers := 0, owed := 0, seen := false }).setStream st
            { v.stream st with
              nextSeq := if q.toNat = 4294967295 then 1 else q + 1
              fillTarget := some i
              unseen :=
                if (v.slot i).state = .ready ∧ (v.slot i).seen = false then satInc (v.stream st).unseen
                else (v.stream st).unseen }))

/-- R7: the serial comparison of sequence numbers, and the number after a number, which is never 0. That 0 is newer than
no number is the model's reading (log 13). -/
def Obligations.SerialNumbers : Prop :=
  ∀ a b : Seq,
    (b ≠ 0 → a ≠ 0 →
      (seqNewer a b = true ↔
        1 ≤ (a.toNat + 4294967296 - b.toNat) % 4294967296 ∧ (a.toNat + 4294967296 - b.toNat) % 4294967296 ≤ 2147483647)) ∧
    (a ≠ 0 → seqNewer a 0 = true) ∧ seqNewer a a = false ∧
    ((a.toNat + 4294967296 - b.toNat) % 4294967296 = 2147483648 → a ≠ 0 → b ≠ 0 →
      seqNewer a b = false ∧ seqNewer b a = false) ∧
    (seqNewer a b = true → seqNewer b a = false) ∧
    (a ≠ 0 → seqNext a ≠ 0 ∧ (seqNext a).toNat = if a.toNat = 4294967295 then 1 else a.toNat + 1)

/-- R11, R12, R13: the claims of a producer that carry the sequence of the slot's frame: commit raises the committed
count, mark adds a damage kind, end makes the slot COMPLETING. One that names another sequence, or that reaches a slot
in any other state, is ignored. -/
def Obligations.ProducerClaims : Prop :=
  ∀ (v : Video) (i : SlotId) (q : Seq),
    (∀ (n : Nat) (k : DamageKind),
      (v.slot i).seq ≠ q ∨ (v.slot i).state ≠ .filling ∧ (v.slot i).state ≠ .completing →
      v.commit i q n = v ∧ v.markDamage i q k = v ∧ v.endClaim i q = v) ∧
    ((v.slot i).seq = q → (v.slot i).state = .filling ∨ (v.slot i).state = .completing →
      (∀ n : Nat, n ≤ (v.slot i).committed → v.commit i q n = v) ∧
      (∀ n : Nat, (v.slot i).committed < n →
        ∃ ps, v.commit i q n = { v.setSlot i { v.slot i with committed := n } with ports := ps } ∧
          ∀ p : PortId, ps[p] =
            { v.port p with
              wait := (v.port p).wait.filter fun wt => !(decide (wt.slot = i) && decide (wt.srcLine < n)) }) ∧
      (∀ k : DamageKind,
        v.markDamage i q k = v.setSlot i { v.slot i with damage := (v.slot i).damage ||| k.bit }) ∧
      v.endClaim i q = v.setSlot i { v.slot i with state := .completing })

/-- R9, R14, R18: a complete claim for a COMPLETING slot whose damage the stream accepts publishes the frame: the slot
is READY with its readers kept and its owed set formed, its sequence is the newest, and damage is reported. The slot
that was the newest departs when it is leaving and nothing else holds it, and is left alone otherwise. -/
def Obligations.PublishedFrames : Prop :=
  ∀ (v : Video) (st : StreamId) (i : SlotId),
    (v.slot i).owner = some st → (v.slot i).state = .completing →
    (v.slot i).damage &&& (v.stream st).discardMask = 0 →
    ∃ (ps : Vector Port 4) (owed : WinSet),
      let x := v.stream st
      let v' :=
        { (v.setSlot i { v.slot i with state := .ready, owed := owed }).setStream st
            { x with
              newest := (v.slot i).seq
              published := satInc x.published
              fillTarget := if x.fillTarget = some i then none else x.fillTarget } with
          ports := ps }
      let result := if (v.slot i).damage = 0 then v' else v'.raise (streamEntry st) 8
      ((∀ j : SlotId, v.newestReady st = some j → (v.slot j).leaving = false ∨ (v.slot j).held) →
        v.complete i (v.slot i).seq = result) ∧
      (∀ j : SlotId, v.newestReady st = some j → (v.slot j).leaving = true → ¬ (v.slot j).held →
        (v.slot j).owner = some st → (v.slot j).seq ≠ (v.slot i).seq → x.state ≠ .draining →
        v.complete i (v.slot i).seq =
          (result.setSlot j
            { base := (v.slot j).base, owner := none, state := .spare, leaving := false, seq := 0, committed := 0,
              damage := 0, readers := 0, owed := 0, pinned := false, seen := false }).setStream st
            { result.stream st with
              pool := x.pool.filter (· != j)
              unseen := if (v.slot j).seen then x.unseen else satInc x.unseen }) ∧
      (∀ w : WindowId, winHas owed w = true ↔
        x.delivery = .ordered ∧ (v.window w).stream = some st ∧ (v.port (portOf w)).on = true ∧
          ((v.window w).state = .idle ∨ (v.window w).state = .showing ∨ (v.window w).state = .chasing)) ∧
      ∀ p : PortId, ps[p] = { v.port p with wait := (v.port p).wait.filter fun wt => !decide (wt.slot = i) }

/-- R9, R14, R15, R34, R83: a frame whose damage meets the discard mask, and a frame that is abandoned, end without
publication. With no reader and no leave mark the slot is EMPTY, the stream counts it, and no window changes. In general
the slot is SPARE and out of its pool when it is leaving, and EMPTY otherwise. Every window that reads it, and no other,
is forced to its fallback, or holds nothing when it has none, with a chase fault counted and raised and a wait on it
over. No other slot or stream changes, when nothing is owed to these windows. -/
def Obligations.FramesGivenUp : Prop :=
  (∀ (v : Video) (st : StreamId) (i : SlotId),
    (v.slot i).owner = some st → (v.slot i).readers = 0 → (v.slot i).leaving = false →
    let x := v.stream st
    let target := if x.fillTarget = some i then none else x.fillTarget
    let empty : Slot :=
      { v.slot i with state := .empty, seq := 0, committed := 0, damage := 0, readers := 0, seen := false }
    ((v.slot i).state = .filling ∨ (v.slot i).state = .completing →
      v.abandon i =
        (v.setSlot i empty).setStream st { x with abandoned := satInc x.abandoned, fillTarget := target }) ∧
    ((v.slot i).state = .completing → (v.slot i).damage &&& x.discardMask ≠ 0 →
      v.complete i (v.slot i).seq =
        (v.setSlot i empty).setStream st
          { x with
            discarded := satInc x.discarded
            unseen := if (v.slot i).seen then x.unseen else satInc x.unseen
            fillTarget := target }) ∧
    ((v.slot i).state ≠ .filling → (v.slot i).state ≠ .completing → v.abandon i = v)) ∧
  ∀ (v : Video) (st : StreamId) (i : SlotId), v.ReadersOk → v.CustodyOk →
    let sl := v.slot i
    let x := v.stream st
    sl.owner = some st → x.live = true → sl.state = .filling ∨ sl.state = .completing →
    let given : Slot :=
      if sl.leaving = true then
        { base := sl.base, owner := none, state := .spare, leaving := false, seq := 0, committed := 0, damage := 0,
          readers := 0, owed := 0, pinned := false, seen := false }
      else { sl with state := .empty, seq := 0, committed := 0, damage := 0, readers := 0, seen := false }
    let reads := fun w : WindowId => winHas sl.readers w
    let ended := fun (v' : Video) (x' : Stream) =>
      v'.slot i = given ∧
      (∀ w : WindowId, v'.window w =
        let y := v.window w
        if reads w = true then
          match y.fallback with
          | some f =>
            { y with
              state := .showing, current := some f, fallback := none, readySeq := (v.slot f).seq
              chaseFaults := satInc y.chaseFaults }
          | none =>
            { y with
              state := .idle, current := none, holdTarget := 0, shown := 0, chaseFaults := satInc y.chaseFaults }
        else y) ∧
      (∀ w : WindowId, (v'.attn.entry (windowEntry w)).pending =
        if reads w = true then (v.attn.entry (windowEntry w)).pending ||| 2
        else (v.attn.entry (windowEntry w)).pending) ∧
      (∀ p : PortId, (v'.port p).wait = (v.port p).wait.filter fun wt => !reads (winOf p wt.layer)) ∧
      ((∀ (j : SlotId) (w : WindowId), reads w = true → winHas (v.slot j).owed w = false) →
        (∀ j : SlotId, j ≠ i → v'.slot j = v.slot j) ∧
        ∀ y : StreamId, v'.stream y = if y = st then x' else v.stream y)
    let x' :=
      { x with
        fillTarget := if x.fillTarget = some i then none else x.fillTarget
        pool := if sl.leaving = true then x.pool.filter (· != i) else x.pool }
    ended (v.abandon i) { x' with abandoned := satInc x.abandoned } ∧
    (sl.state = .completing → sl.damage &&& x.discardMask ≠ 0 →
      ended (v.complete i sl.seq)
        { x' with
          discarded := satInc x.discarded
          unseen := if sl.seen = true then x.unseen else satInc x.unseen })

/-- R4, R10, R18, R20, R25, R30, R31: the owner is none exactly for SPARE slots, the pools list exactly the slots each
stream owns, once each and at most eight, the pool of a CLOSED stream is empty, and every step keeps it so. With it
every step keeps what the slots are held for: one FILLING slot a stream at most, owed sets of READY slots and windows
in use only, two slots of a pool beside the pinned ones, and DETACHED slots of DRAINING streams only. -/
def Obligations.PoolsKept : Prop :=
  ∀ s t : State, s.video.PoolsOk → step s = .next t →
    t.video.PoolsOk ∧ (s.video.CustodyOk → t.video.CustodyOk)

/-- R5, R6: the regions of the slots that are not SPARE lie inside frame memory and share no byte, and every step keeps
it so. -/
def Obligations.RegionsKept : Prop :=
  ∀ s t : State, s.video.PoolsOk → s.video.RegionsOk → step s = .next t → t.video.RegionsOk

/-- R16: where the owners of slots and the pools of streams agree (R31), a window is a member of a slot's reader set
exactly when the slot is its current or its fallback slot, it has a fallback only while it is CHASING, and every step
keeps it so. -/
def Obligations.ReadersKept : Prop :=
  ∀ s t : State, s.video.PoolsOk → s.video.ReadersOk → step s = .next t → t.video.ReadersOk

/-! ## Streams and pools (Chapter 2) -/

/-- R6, R20, R37, R38: STREAM_OPEN of a CLOSED stream with arguments in range, SPARE slots whose regions fit, a source
no other stream holds and a channel that is READY. -/
def Obligations.StreamOpenResult : Prop :=
  ∀ (s : State) (tag bpp : Byte) (st : StreamId) (src : Source) (width height pitch : BitVec 16) (d : Delivery)
    (mask : DamageSet) (slots : List SlotId),
    LinkFree s → s.channel.cal = .ready → (s.video.stream st).state = .closed →
    (∀ p, src = .input p → ∀ x : StreamId, x ≠ st → (s.video.stream x).source = some src →
      (s.video.stream x).state = .closed) →
    2 ≤ bpp.toNat → bpp.toNat ≤ 4 → 16 ≤ width.toNat → width.toNat ≤ 4096 → 16 ≤ height.toNat →
    height.toNat ≤ 4096 → 1 ≤ pitch.toNat → pitch.toNat ≤ 1024 → (width.toNat * bpp.toNat + 63) / 64 ≤ pitch.toNat →
    2 ≤ slots.length → slots.length ≤ 8 → slots.Nodup → (∀ i ∈ slots, (s.video.slot i).state = .spare) →
    let len := pitch.toNat * 64 * height.toNat
    let first := fun i : SlotId => (s.video.slot i).base.toNat * 4096
    (∀ i ∈ slots, first i + len ≤ 268435456) →
    (∀ i ∈ slots, ∀ j ∈ slots, i ≠ j → first i + len ≤ first j ∨ first j + len ≤ first i) →
    (∀ i ∈ slots, ∀ (j : SlotId) (x : StreamId), (s.video.slot j).owner = some x →
      first i + len ≤ first j ∨ first j + (s.video.stream x).pitch * 64 * (s.video.stream x).height ≤ first i) →
    ∃ v : Video,
      exec (.streamOpen tag (natByte st.val) (sourceNumber (some src)) bpp width height pitch d.number
          (mask.setWidth 8) (slots.map fun i => natByte i.val)) s = .next (s.carriedOut tag 0x10 [] v) ∧
      v = { s.video with slots := v.slots, streams := v.streams, windows := v.windows, ingest := v.ingest } ∧
      v.stream st =
        { state := .opened, source := some src, bpp := bpp.toNat, width := width.toNat, height := height.toNat,
          pitch := pitch.toNat, delivery := d, discardMask := mask, pool := slots, nextSeq := 1, newest := 0,
          fillTarget := none, published := 0, discarded := 0, overflowed := 0, unseen := 0, abandoned := 0,
          lost := 0 } ∧
      (∀ x : StreamId, x ≠ st → v.stream x = s.video.stream x) ∧
      (∀ i ∈ slots, v.slot i = { s.video.slot i with state := .empty, owner := some st, leaving := false }) ∧
      (∀ i ∉ slots, v.slot i = s.video.slot i) ∧
      (∀ w : WindowId, v.window w =
        if (s.video.window w).stream = some st then { s.video.window w with readySeq := 0 } else s.video.window w) ∧
      ∀ p : PortId, v.input p =
        if src = .input p then
          { s.video.input p with state := .bound, stream := some st, stopPending := false }
        else s.video.input p

/-- R39: STREAM_START of an OPEN stream: it is RUNNING, and its source port, when it has one that is BOUND, is ARMED
with its loss timer running from 0. Nothing else changes. -/
def Obligations.StreamStartResult : Prop :=
  ∀ (s : State) (tag : Byte) (st : StreamId), LinkFree s → (s.video.stream st).state = .opened →
    ((s.video.stream st).source = some .host →
      exec (.streamStart tag (natByte st.val)) s =
        .next (s.carriedOut tag 0x11 [] (s.video.setStream st { s.video.stream st with state := .running }))) ∧
    ∀ p : PortId, (s.video.stream st).source = some (.input p) → (s.video.input p).state = .bound →
      exec (.streamStart tag (natByte st.val)) s =
        .next
          (s.carriedOut tag 0x11 []
            ((s.video.setStream st { s.video.stream st with state := .running }).setInput p
              { s.video.input p with state := .armed, lossTimer := some 0 }))

/-- R40, R132: STREAM_STOP AFTER_FRAME of a RUNNING stream. With a FILLING slot the stream is STOPPING and its
CAPTURING port is to stop after the frame; with none the stream is OPEN at once and its port is BOUND. The lock units
that follow the stream are in HOLDOVER. -/
def Obligations.StopAfterFrameResult : Prop :=
  ∀ (s : State) (tag : Byte) (st : StreamId), LinkFree s → (s.video.stream st).state = .running →
    ∃ v : Video,
      exec (.streamStopAfterFrame tag (natByte st.val)) s = .next (s.carriedOut tag 0x12 [] v) ∧
      v = { s.video with streams := v.streams, ingest := v.ingest, locks := v.locks, ports := v.ports } ∧
      (∀ x : StreamId, v.stream x =
        if x = st then
          { s.video.stream st with
            state :=
              if ∃ i ∈ (s.video.stream st).pool, (s.video.slot i).state = .filling then .stopping else .opened }
        else s.video.stream x) ∧
      (∀ p : PortId, (s.video.stream st).source ≠ some (.input p) → v.input p = s.video.input p) ∧
      (∀ p : PortId, (s.video.stream st).source = some (.input p) →
        ((∃ i ∈ (s.video.stream st).pool, (s.video.slot i).state = .filling) →
          (s.video.input p).state = .capturing → v.input p = { s.video.input p with stopPending := true }) ∧
        ((∀ i ∈ (s.video.stream st).pool, (s.video.slot i).state ≠ .filling) →
          (s.video.input p).state ≠ .capturing →
          v.input p = { s.video.input p with state := .bound, lossTimer := none, stopPending := false })) ∧
      ∀ p : PortId,
        let u := s.video.lock p
        let lost := u.refStream = st ∧ (u.state = .acquiring ∨ u.state = .locked)
        v.lock p = (if lost then { u with state := .holdover, countdown := 1 } else u) ∧
        v.port p =
          (if lost ∧ (s.video.port p).on = true then
            { s.video.port p with nextTotal := (s.video.port p).totalLines }
          else s.video.port p)

/-- R9, R15, R41, R83, R132: STREAM_STOP NOW of a RUNNING or STOPPING stream. The frame of its FILLING slot, if it has
one, is abandoned: the slot is EMPTY, or SPARE and out of the pool when it is leaving, and slots, windows, streams and
attention are as the abandon claim leaves them when windows chase it. The port stops with none of the frame's bursts
kept, the stream is OPEN, and the lock units that follow a RUNNING stream are in HOLDOVER. That the open line and the
packer of a CAPTURING port are cleared with its frame is the model's choice (log 22). -/
def Obligations.StopNowResult : Prop :=
  ∀ (s : State) (tag : Byte) (st : StreamId), LinkFree s →
    (s.video.stream st).state = .running ∨ (s.video.stream st).state = .stopping →
    (∀ i : SlotId, s.video.fillingOf st = some i → (s.video.slot i).owner = some st) →
    let x := s.video.stream st
    (∀ i : SlotId, s.video.fillingOf st = some i →
      let a := s.video.abandon i
      ∃ v : Video,
        exec (.streamStopNow tag (natByte st.val)) s = .next (s.carriedOut tag 0x12 [] v) ∧
        v.slots = a.slots ∧ v.windows = a.windows ∧ v.attn = a.attn ∧
        ∀ y : StreamId, v.stream y = if y = st then { a.stream st with state := .opened } else a.stream y) ∧
    ((∀ i : SlotId, s.video.fillingOf st = some i → (s.video.slot i).readers = 0) →
    let departs := fun i : SlotId => decide (s.video.fillingOf st = some i) && (s.video.slot i).leaving
    ∃ v : Video,
      exec (.streamStopNow tag (natByte st.val)) s = .next (s.carriedOut tag 0x12 [] v) ∧
      v =
        { s.video with
          slots := v.slots, streams := v.streams, ingest := v.ingest, locks := v.locks, ports := v.ports } ∧
      (∀ j : SlotId, v.slot j =
        if departs j = true then { Slot.reset with base := (s.video.slot j).base }
        else if s.video.fillingOf st = some j then
          { s.video.slot j with
            state := .empty, seq := 0, committed := 0, damage := 0, readers := 0, seen := false }
        else s.video.slot j) ∧
      (∀ y : StreamId, v.stream y =
        if y = st then
          { x with
            state := .opened
            pool := x.pool.filter fun i => !departs i
            abandoned := if s.video.fillingOf st = none then x.abandoned else satInc x.abandoned
            fillTarget := if x.fillTarget = s.video.fillingOf st then none else x.fillTarget }
        else s.video.stream y) ∧
      (∀ p : PortId, x.source ≠ some (.input p) → v.input p = s.video.input p) ∧
      (∀ p : PortId, x.source = some (.input p) →
        (v.input p).state = .bound ∧ (v.input p).lossTimer = none ∧ (v.input p).stopPending = false ∧
        (v.input p).inFlight = (s.video.input p).inFlight ∧
        ((s.video.input p).state ≠ .capturing →
          v.input p = { s.video.input p with state := .bound, lossTimer := none, stopPending := false }) ∧
        ∀ (i : SlotId) (q : Seq), (s.video.input p).state = .capturing → (s.video.input p).target = some (i, q) →
          (v.input p).target = none ∧ (v.input p).lineOpen = false ∧ (v.input p).packer = [] ∧
          (v.input p).fifo =
            (s.video.input p).fifo.filter (fun b => !(decide (b.tag.slot = i) && decide (b.tag.seq = q))) ∧
          (v.input p).frames =
            (s.video.input p).frames.filter fun e => !(decide (e.slot = i) && decide (e.seq = q))) ∧
      ∀ p : PortId,
        let u := s.video.lock p
        let lost := x.state = .running ∧ u.refStream = st ∧ (u.state = .acquiring ∨ u.state = .locked)
        v.lock p = (if lost then { u with state := .holdover, countdown := 1 } else u) ∧
        v.port p =
          (if lost ∧ (s.video.port p).on = true then
            { s.video.port p with nextTotal := (s.video.port p).totalLines }
          else s.video.port p))

/-- R15, R19, R22, R35, R43, R132: STREAM_CLOSE of a stream in use. The FILLING and COMPLETING slots of its pool are abandoned
and counted. Of its pool exactly the slots stay that a window reads or the host has pinned, in pool order: each is
DETACHED, owed to nobody and not leaving. Every other slot is SPARE with its base kept, and counts as unseen when it
held a READY frame no window ever latched. The stream is CLOSED when none is left and DRAINING otherwise; its port is
UNBOUND with its bursts in flight orphaned; the windows keep their binding. A lock unit that acquires or is locked on a
stream that was RUNNING goes to HOLDOVER, with the nominal next total where its port is ON, and no other lock unit and
no other next total changes. The answer names the state and the number of slots left. That the orphans of an earlier unbind are kept beside the new ones is the model's reading (log 10). -/
def Obligations.StreamCloseResult : Prop :=
  ∀ (s : State) (tag : Byte) (st : StreamId), LinkFree s → s.video.PoolsOk → s.video.CustodyOk →
    (s.video.stream st).live = true →
    let x := s.video.stream st
    let unfinished := fun i : SlotId =>
      decide ((s.video.slot i).state = .filling ∨ (s.video.slot i).state = .completing)
    let left := x.pool.filter fun i =>
      !unfinished i && decide ((s.video.slot i).readers ≠ 0 ∨ (s.video.slot i).pinned = true)
    ∃ v : Video,
      exec (.streamClose tag (natByte st.val)) s =
        .next (s.carriedOut tag 0x13 [if left = [] then 0 else 4, natByte left.length] v) ∧
      v.stream st =
        { x with
          state := if left = [] then .closed else .draining
          fillTarget := none
          pool := left
          abandoned := BitVec.ofNat 32 (min 4294967295 (x.abandoned.toNat + x.pool.countP unfinished))
          unseen :=
            BitVec.ofNat 32
              (min 4294967295
                (x.unseen.toNat + x.pool.countP fun i =>
                  decide ((s.video.slot i).state = .ready ∧ (s.video.slot i).seen = false ∧
                    (s.video.slot i).readers = 0 ∧ (s.video.slot i).pinned = false))) } ∧
      (∀ i ∈ left, v.slot i = { s.video.slot i with state := .detached, owed := 0, leaving := false }) ∧
      (∀ i ∈ x.pool, i ∉ left →
        v.slot i =
          { base := (s.video.slot i).base, owner := none, state := .spare, leaving := false, seq := 0,
            committed := 0, damage := 0, readers := 0, owed := 0, pinned := false, seen := false }) ∧
      (∀ w : WindowId, (v.window w).stream = (s.video.window w).stream) ∧
      (∀ p : PortId, x.source = some (.input p) →
        (v.input p).state = .unbound ∧ (v.input p).stream = none ∧ (v.input p).target = none ∧
        (v.input p).fifo = [] ∧ (v.input p).frames = [] ∧ (v.input p).inFlight = 0 ∧
        (v.input p).orphans = (s.video.input p).orphans + (s.video.input p).inFlight) ∧
      ∀ p : PortId,
        let u := s.video.lock p
        let pt := s.video.port p
        let lost := x.state = .running ∧ u.refStream = st ∧ (u.state = .acquiring ∨ u.state = .locked)
        v.lock p = (if lost then { u with state := .holdover, countdown := 1 } else u) ∧
        (v.port p).nextTotal = (if lost ∧ pt.on = true then pt.totalLines else pt.nextTotal)

/-- R44, R45: POOL_GROW appends an EMPTY slot. POOL_SHRINK takes an EMPTY slot, or a READY one that is free and not the
newest, out of the pool at once, and marks any other slot; it keeps two slots, and two more than the pins. -/
def Obligations.PoolGrowAndShrink : Prop :=
  ∀ (s : State) (tag : Byte) (st : StreamId) (i : SlotId), LinkFree s → (s.video.stream st).live = true →
    let x := s.video.stream st
    let sl := s.video.slot i
    (s.channel.cal = .ready → x.pool.length < 8 → sl.state = .spare →
      s.video.regionCheck x.pitch x.height [i] = true →
      exec (.poolGrow tag (natByte st.val) (natByte i.val)) s =
        .next
          (s.carriedOut tag 0x14 [natByte (x.pool.length + 1)]
            ((s.video.setSlot i { sl with state := .empty, owner := some st, leaving := false }).setStream st
              { x with pool := x.pool ++ [i] }))) ∧
    (i ∈ x.pool → sl.owner = some st → sl.leaving = false →
      let others := x.pool.countP fun j => decide (j ≠ i) && !(s.video.slot j).leaving
      let pins := x.pool.countP fun j => (s.video.slot j).pinned
      (others < 2 ∨ others < pins + 2 →
        exec (.poolShrink tag (natByte st.val) (natByte i.val)) s =
          .next { s with link := s.link.answered tag 0x15 .limit [] }) ∧
      (2 ≤ others → pins + 2 ≤ others →
        (sl.state = .empty ∨ sl.state = .ready ∧ ¬ sl.held ∧ sl.seq ≠ x.newest →
          exec (.poolShrink tag (natByte st.val) (natByte i.val)) s =
            .next
              (s.carriedOut tag 0x15 [0]
                ((s.video.setSlot i { Slot.reset with base := sl.base }).setStream st
                  { x with
                    pool := x.pool.filter (· != i)
                    unseen := if sl.state = .ready ∧ sl.seen = false then satInc x.unseen else x.unseen }))) ∧
        (sl.state ≠ .empty → sl.state ≠ .ready ∨ sl.held ∨ sl.seq = x.newest →
          exec (.poolShrink tag (natByte st.val) (natByte i.val)) s =
            .next (s.carriedOut tag 0x15 [1] (s.video.setSlot i { sl with leaving := true }))))) ∧
    (i ∈ x.pool → sl.leaving = true →
      exec (.poolShrink tag (natByte st.val) (natByte i.val)) s = .next (s.carriedOut tag 0x15 [1] s.video))

/-- R46, R72, R104, R123, R149 and the field order of section 11.9: the queries with a clear option answer the record as
it stands, field by field. KEEP changes nothing; CLEAR sets the counters of the record to 0 and no other field. That a
yes or no field is sent as 1 or 0 is the model's reading (log 37). -/
def Obligations.QueriesKeepAndClear : Prop :=
  ∀ (s : State) (tag : Byte), LinkFree s →
    let flag := fun b : Bool => if b then (1 : Byte) else 0
    (∀ st : StreamId,
      let x := s.video.stream st
      let out : List Byte :=
        [x.state.number, sourceNumber x.source, natByte x.bpp]
          ++ natBytes16 x.width ++ natBytes16 x.height ++ natBytes16 x.pitch
          ++ natBytes16 ((x.width * x.bpp + 63) / 64) ++ [x.delivery.number, x.discardMask.setWidth 8]
          ++ bytes32 x.nextSeq ++ bytes32 x.newest ++ [optByte x.fillTarget]
          ++ bytes32 x.published ++ bytes32 x.discarded ++ bytes32 x.overflowed ++ bytes32 x.unseen
          ++ bytes32 x.abandoned ++ bytes32 x.lost ++ [natByte x.pool.length]
          ++ x.pool.flatMap fun i => [natByte i.val, (s.video.slot i).state.number, flag (s.video.slot i).leaving]
      exec (.streamQuery tag (natByte st.val) 0) s = .next (s.carriedOut tag 0x16 out s.video) ∧
      exec (.streamQuery tag (natByte st.val) 1) s =
        .next
          (s.carriedOut tag 0x16 out
            (s.video.setStream st
              { x with published := 0, discarded := 0, overflowed := 0, unseen := 0, abandoned := 0, lost := 0 }))) ∧
    (∀ w : WindowId,
      let x := s.video.window w
      let out : List Byte :=
        [x.state.number, optByte x.stream]
          ++ natBytes16 x.x0 ++ natBytes16 x.y0 ++ natBytes16 x.w ++ natBytes16 x.h ++ natBytes16 x.dx ++ natBytes16 x.dy
          ++ [natByte x.hrep, natByte x.vrep, natByte x.guard, natByte x.cadence.length]
          ++ (List.range 16).map (fun k => natByte (x.cadence.getD k 0))
          ++ [natByte x.cursor, natByte x.holdTarget, natByte x.shown, optByte x.current, optByte x.fallback]
          ++ bytes32 x.readySeq ++ bytes32 x.latches ++ bytes32 x.repeats ++ bytes32 x.underrunLines
          ++ bytes32 x.chaseFaults
      exec (.windowQuery tag (natByte w.val) 0) s = .next (s.carriedOut tag 0x23 out s.video) ∧
      exec (.windowQuery tag (natByte w.val) 1) s =
        .next
          (s.carriedOut tag 0x23 out
            (s.video.setWindow w { x with latches := 0, repeats := 0, underrunLines := 0, chaseFaults := 0 }))) ∧
    (∀ p : PortId,
      let g := s.video.input p
      let out : List Byte :=
        [g.state.number, optByte g.stream, flag g.stopPending, natByte g.lossTimeout, natByte g.normalMark,
            natByte g.urgentMark, natByte g.fifo.length, natByte g.inFlight, flag g.tailFlush,
            optByte (g.target.map Prod.fst)]
          ++ bytes32 ((g.target.map Prod.snd).getD 0) ++ natBytes16 g.linesReceived ++ bytes32 g.framesSeen
          ++ bytes32 g.burstsDropped
      exec (.ingestQuery tag (natByte p.val) 0) s = .next (s.carriedOut tag 0x31 out s.video) ∧
      exec (.ingestQuery tag (natByte p.val) 1) s =
        .next (s.carriedOut tag 0x31 out (s.video.setInput p { g with framesSeen := 0, burstsDropped := 0 }))) ∧
    (∀ p : PortId,
      let pt := s.video.port p
      let u := s.video.lock p
      let out : List Byte :=
        [flag pt.on, flag pt.timingValid, natByte pt.bpp] ++ natBytes16 pt.activeWidth ++ natBytes16 pt.activeLines
          ++ [natByte pt.topBlank] ++ natBytes16 pt.totalLines ++ natBytes16 pt.lineLength
          ++ bytes32 pt.borderColour ++ bytes32 pt.underrunColour ++ [natByte pt.urgentLead]
          ++ natBytes16 pt.lineCounter ++ natBytes16 pt.frameTotal ++ natBytes16 pt.nextTotal
          ++ bytes32 pt.frameNumber ++ natBytes16 pt.emissionLine ++ natBytes16 (pt.fetchLine.getD 65535)
          ++ [flag pt.wait.isSome, optByte (pt.wait.map fun wt => winOf p wt.layer)]
          ++ natBytes16 ((pt.wait.map Wait.srcLine).getD 0) ++ natBytes16 pt.pendingReads.length
          ++ [natByte pt.inFlight] ++ bytes32 pt.frames ++ bytes32 pt.cutFrames ++ [u.state.number]
          ++ bytes16 (BitVec.ofInt 16 u.lastError) ++ natBytes16 u.samples
      exec (.portQuery tag (natByte p.val) 0) s = .next (s.carriedOut tag 0x43 out s.video) ∧
      exec (.portQuery tag (natByte p.val) 1) s =
        .next (s.carriedOut tag 0x43 out (s.video.setPort p { pt with frames := 0, cutFrames := 0 }))) ∧
    let c := s.channel
    let out : List Byte :=
      [c.cal.number, natByte c.attempts] ++ bytes32 c.urgentGrants ++ bytes32 c.normalGrants
        ++ bytes32 c.backgroundGrants ++ [natByte c.inFlight.length]
        ++ ((List.finRange 8).map s.requestOf ++ [s.hostRequest]).map
          (fun r => match r with | none => (0 : Byte) | some .urgent => 1 | some .normal => 2 | some .background => 3)
        ++ [natByte c.urgentPtr.val, natByte c.normalPtr.val]
    exec (.memoryQuery tag 0) s = .next (s.carriedOut tag 0x50 out s.video) ∧
      exec (.memoryQuery tag 1) s =
        .next
          { s.carriedOut tag 0x50 out s.video with
            channel := { c with urgentGrants := 0, normalGrants := 0, backgroundGrants := 0 } }

/-! ## Windows and chase reading (Chapters 3 and 4) -/

/-- R65, R69, R71: WINDOW_SET binds a window that holds nothing any more and is owed nothing; WINDOW_CLEAR takes it out
of use and keeps placement, cadence and counters. A CLEAR window is left as it is. The other windows, the ingest
ports and the lock units stay; slots that the window leaves may depart. -/
def Obligations.WindowSetAndClear : Prop :=
  ∀ (s : State) (tag : Byte) (w : WindowId), LinkFree s → s.video.ReadersOk →
    let pt := s.video.port (portOf w)
    (∀ (st : StreamId) (x0 y0 width height dx dy : BitVec 16) (hrep vrep guard : Byte),
      x0.toNat ≤ 4095 → y0.toNat ≤ 4095 → 1 ≤ width.toNat → 1 ≤ height.toNat → x0.toNat + width.toNat ≤ 4096 →
      y0.toNat + height.toNat ≤ 4096 → hrep = 1 ∨ hrep = 2 → vrep = 1 ∨ vrep = 2 → pt.timingValid = true →
      dx.toNat < pt.activeWidth → dy.toNat < pt.activeLines →
      ∃ v : Video,
        exec (.windowSet tag (natByte w.val) (natByte st.val) x0 y0 width height dx dy hrep vrep guard) s =
          .next (s.carriedOut tag 0x20 [] v) ∧
        v.window w =
          { s.video.window w with
            state := .idle, stream := some st, x0 := x0.toNat, y0 := y0.toNat, w := width.toNat, h := height.toNat,
            dx := dx.toNat, dy := dy.toNat, hrep := hrep.toNat, vrep := vrep.toNat, guard := guard.toNat,
            cursor := 0, holdTarget := 0, shown := 0, current := none, fallback := none, readySeq := 0 } ∧
        (∀ k : WindowId, k ≠ w → v.window k = s.video.window k) ∧
        (∀ i : SlotId, winHas (v.slot i).readers w = false ∧ winHas (v.slot i).owed w = false) ∧
        v.ingest = s.video.ingest ∧ v.locks = s.video.locks) ∧
    ((s.video.window w).state ≠ .clear →
      ∃ v : Video,
        exec (.windowClear tag (natByte w.val)) s = .next (s.carriedOut tag 0x22 [] v) ∧
        v.window w =
          { s.video.window w with
            state := .clear, stream := none, cursor := 0, holdTarget := 0, shown := 0, current := none,
            fallback := none, readySeq := 0 } ∧
        (∀ k : WindowId, k ≠ w → v.window k = s.video.window k) ∧
        (∀ i : SlotId, winHas (v.slot i).readers w = false ∧ winHas (v.slot i).owed w = false) ∧
        v.ingest = s.video.ingest ∧ v.locks = s.video.locks) ∧
    ((s.video.window w).state = .clear →
      exec (.windowClear tag (natByte w.val)) s = .next (s.carriedOut tag 0x22 [] s.video))

/-- R70, R103, R180: CADENCE_SET with 1 to 16 hold counts of 1 to 15; INGEST_SET with marks in order: the run follows the
level and the new normal mark, and a running timer that has already reached the new timeout makes the loss timeout occur,
in the same step, which is the model's choice (log 28); NOP answers its own payload. -/
def Obligations.PlainSettings : Prop :=
  ∀ (s : State) (tag : Byte), LinkFree s →
    (∀ (w : WindowId) (counts : List Byte), 1 ≤ counts.length → counts.length ≤ 16 →
      (∀ c ∈ counts, 1 ≤ c.toNat ∧ c.toNat ≤ 15) →
      exec (.cadenceSet tag (natByte w.val) counts) s =
        .next
          (s.carriedOut tag 0x21 []
            (s.video.setWindow w { s.video.window w with cadence := counts.map BitVec.toNat, cursor := 0 }))) ∧
    (∀ (p : PortId) (timeout normal urgent : Byte), 1 ≤ timeout.toNat → 1 ≤ normal.toNat →
      normal.toNat ≤ urgent.toNat → urgent.toNat ≤ 32 →
      let g := s.video.input p
      let set :=
        s.video.setInput p
          { g with
            lossTimeout := timeout.toNat
            normalMark := normal.toNat
            urgentMark := urgent.toNat
            run := if g.fifo.length = 0 then false else if normal.toNat ≤ g.fifo.length then true else g.run
            tailFlush := if g.fifo.length = 0 then false else g.tailFlush }
      ((∀ k, g.lossTimer = some k → k < timeout.toNat) →
        exec (.ingestSet tag (natByte p.val) timeout normal urgent) s = .next (s.carriedOut tag 0x30 [] set)) ∧
      ∀ k, g.lossTimer = some k → timeout.toNat ≤ k → g.state = .armed ∨ g.state = .capturing ∨ g.state = .skipping →
        s.channel.draining = false →
        ∃ t, exec (.lossTimeout p) { s with video := set } = .next t ∧
          exec (.ingestSet tag (natByte p.val) timeout normal urgent) s = .next (t.carriedOut tag 0x30 [] t.video)) ∧
    ∀ payload : List Byte, payload.length ≤ 4104 →
      exec (.nop tag payload) s = .next (s.carriedOut tag 0x7E payload s.video)

/-- R53, R55, R56, R58, R59, R60, R61, R62: the frame-start steps of a window that is not chasing. While a hold lasts
shown is counted up and nothing else changes. When it has ended, or nothing is held, the pick latches: under NEWEST the
newest READY frame when it is newer than the ready sequence, under ORDERED the oldest READY frame owed to the window, or
the newest READY one while the ready sequence is 0. A window of a NEWEST stream with a guard does the same where no fill
target is fit to chase (R75). Without a candidate a repeat is counted, and a window that holds
nothing takes the frame of its ready sequence again. A stream that is CLOSED or DRAINING, or that does not fit, makes
the window give up what it holds. -/
def Obligations.FrameStartHoldsAndLatches : Prop :=
  (∀ (v : Video) (w : WindowId) (st : StreamId) (c : SlotId),
    let x := v.window w
    let y := v.stream st
    x.state = .showing → x.stream = some st → x.current = some c → x.guard = 0 → y.live = true →
    y.delivery = .newest → y.bpp = (v.port (portOf w)).bpp → x.x0 + x.w ≤ y.width → x.y0 + x.h ≤ y.height →
    (v.slot c).state = .ready ∨ (v.slot c).state = .detached →
    let shown := min 15 (x.shown + 1)
    (shown < x.holdTarget → v.windowFrameStart w = v.setWindow w { x with shown := shown }) ∧
    (x.holdTarget ≤ shown → (v.newestReady st = none ∨ seqNewer y.newest x.readySeq = false) →
      v.windowFrameStart w = v.setWindow w { x with shown := shown, repeats := satInc x.repeats }) ∧
    (x.holdTarget ≤ shown → ∀ i : SlotId, v.newestReady st = some i → i ≠ c → seqNewer y.newest x.readySeq = true →
      let v' := v.windowFrameStart w
      v'.window w =
        { x with
          current := some i, readySeq := y.newest, shown := 0, latches := satInc x.latches
          holdTarget := x.cadence.getD x.cursor 0
          cursor := if x.cursor + 1 < x.cadence.length then x.cursor + 1 else 0 } ∧
      v'.slot i =
        { v.slot i with
          readers := winAdd (v.slot i).readers w, owed := winDrop (v.slot i).owed w, seen := true } ∧
      winHas (v'.slot c).readers w = false ∧
      ∀ k : WindowId, k ≠ w → v'.window k = v.window k)) ∧
  ∀ (v : Video) (w : WindowId) (st : StreamId),
    let x := v.window w
    let y := v.stream st
    let v' := v.windowFrameStart w
    let fits := y.bpp = (v.port (portOf w)).bpp ∧ x.x0 + x.w ≤ y.width ∧ x.y0 + x.h ≤ y.height
    let chases := fun f : SlotId =>
      y.fillTarget = some f ∧ x.current ≠ some f ∧ ((v.slot f).state = .filling ∨ (v.slot f).state = .completing) ∧
        x.guard ≠ 0 ∧ (∃ p : PortId, y.source = some (.input p)) ∧ x.guard ≤ (v.slot f).committed ∧
        seqNewer (v.slot f).seq x.readySeq = true
    let givenUp :=
      (∀ k : WindowId, k ≠ w → v'.window k = v.window k) ∧ (∀ i : SlotId, winHas (v'.slot i).readers w = false) ∧
      (∀ i : SlotId, (v.slot i).state = .detached → (v.slot i).readers = winBit w → (v.slot i).pinned = false →
        (v.slot i).owner ≠ none → v'.slot i = { Slot.reset with base := (v.slot i).base })
    (x.state = .clear → v' = v) ∧
    (v.ReadersOk → x.state ≠ .clear → x.stream = some st →
      -- R55
      (y.live = false →
        v'.window w = { x with current := none, fallback := none, holdTarget := 0, shown := 0, state := .idle } ∧
        givenUp ∧ ∀ i : SlotId, winHas (v.slot i).readers w = false → v'.slot i = v.slot i) ∧
      -- R56
      (y.live = true → ¬ fits →
        (x.state = .mismatch → v' = v) ∧
        (x.state ≠ .mismatch →
          v'.window w = { x with current := none, fallback := none, holdTarget := 0, shown := 0, state := .mismatch } ∧
          givenUp ∧ (∀ i : SlotId, winHas (v'.slot i).owed w = false) ∧
          (v'.attn.entry (windowEntry w)).pending = (v.attn.entry (windowEntry w)).pending ||| 4)) ∧
      (y.live = true → fits → x.state = .mismatch →
        v' = (v.setWindow w { x with state := .idle }).windowFrameStart w) ∧
      -- R58, while the hold lasts
      (y.live = true → fits → x.state = .showing ∨ x.state = .idle → x.current ≠ none →
        min 15 (x.shown + 1) < x.holdTarget → v' = v.setWindow w { x with shown := min 15 (x.shown + 1) }) ∧
      -- R58 to R62, with the hold ended or nothing held
      (y.live = true → fits → x.state = .showing ∨ x.state = .idle → y.delivery = .ordered ∨ (∀ f, ¬ chases f) →
        x.current = none ∨ x.holdTarget ≤ min 15 (x.shown + 1) →
        let shown := if x.current = none then x.shown else min 15 (x.shown + 1)
        let latched := fun i : SlotId =>
          v'.window w =
            { x with
              state := .showing, current := some i, readySeq := (v.slot i).seq, shown := 0
              latches := satInc x.latches, holdTarget := x.cadence.getD x.cursor 0
              cursor := if x.cursor + 1 < x.cadence.length then x.cursor + 1 else 0 } ∧
          v'.slot i =
            { v.slot i with
              readers := winAdd (v.slot i).readers w, owed := winDrop (v.slot i).owed w, seen := true } ∧
          (∀ j : SlotId, j ≠ i → winHas (v'.slot j).readers w = false) ∧
          ∀ k : WindowId, k ≠ w → v'.window k = v.window k
        let owed := fun i : SlotId => (v.slot i).state = .ready ∧ winHas (v.slot i).owed w = true
        let none' :=
          (∀ c : SlotId, x.current = some c → v' = v.setWindow w { x with shown := shown, repeats := satInc x.repeats }) ∧
          (x.current = none →
            (x.readySeq = 0 ∨ v.readyWith st x.readySeq = none → v' = v) ∧
            ∀ i : SlotId, x.readySeq ≠ 0 → v.readyWith st x.readySeq = some i → latched i)
        (y.delivery = .newest →
          (∀ i : SlotId, v.newestReady st = some i → seqNewer y.newest x.readySeq = true → x.current ≠ some i →
            latched i) ∧
          (v.newestReady st = none ∨ seqNewer y.newest x.readySeq = false → none')) ∧
        (y.delivery = .ordered →
          (x.readySeq = 0 →
            (∀ i : SlotId, v.newestReady st = some i → x.current ≠ some i → latched i) ∧
            (v.newestReady st = none → none')) ∧
          (x.readySeq ≠ 0 →
            (∀ i ∈ y.pool, owed i → x.current ≠ some i →
              (∀ j ∈ y.pool, owed j → j ≠ i → seqNewer (v.slot j).seq (v.slot i).seq = true) → latched i) ∧
            ((∀ i ∈ y.pool, ¬ owed i) → none')))))

/-- R33, R57, R59, R62, R77: a frame start takes no window of a NEWEST stream back to an older frame. The ready sequence
of a window that is not CHASING stays or is replaced by a newer one, and so is the frame it holds. A CHASING window that
goes on holding a frame holds the chased one or a newer one, and its ready sequence stays, or becomes that of the chased
frame or of a newer one. -/
def Obligations.NewestNeverGoesBack : Prop :=
  ∀ (v : Video) (w : WindowId) (st : StreamId),
    let x := v.window w
    let x' := (v.windowFrameStart w).window w
    x.stream = some st → (v.stream st).delivery = .newest →
    (x.state ≠ .chasing →
      (x'.readySeq = x.readySeq ∨ seqNewer x'.readySeq x.readySeq = true) ∧
      ∀ i : SlotId, x'.current = some i →
        x.current = some i ∨ (v.slot i).seq = x.readySeq ∨ seqNewer (v.slot i).seq x.readySeq = true) ∧
    ∀ c : SlotId, v.ReadersOk → x.state = .chasing → x.current = some c →
      let q := (v.slot c).seq
      (x'.readySeq = x.readySeq ∨ x'.readySeq = q ∨ seqNewer x'.readySeq q = true) ∧
      ∀ i : SlotId, x'.current = some i → i = c ∨ seqNewer (v.slot i).seq q = true

/-- R16, R31, R57, R59, R75, R76, R77: the chase decision of a window of a live NEWEST stream, with its hold ended. It begins to chase
exactly when its guard is not 0, the source is an ingest port, and the fill target is FILLING or COMPLETING, is newer
than its ready sequence, and has at least the guard's lines committed. The READY frame it held, or else the newest READY
frame, is set aside, and its ready sequence stays. At the next frame start a window that chases a frame gives its
fallback up; a frame that has been published by then is shown, and one that has not is chased on. When its hold has ended
it begins a new chase if the fill target is newer than the chased frame too, setting the chased frame aside if that was
published, and else shows the newest READY frame if that is newer than the chased one. -/
def Obligations.ChaseDecision : Prop :=
  (∀ (v : Video) (w : WindowId) (st : StreamId) (f : SlotId),
    let x := v.window w
    let y := v.stream st
    v.ReadersOk → x.state = .showing ∨ x.state = .idle → x.stream = some st → y.live = true →
    y.delivery = .newest → y.bpp = (v.port (portOf w)).bpp → x.x0 + x.w ≤ y.width → x.y0 + x.h ≤ y.height →
    y.fillTarget = some f → (v.slot f).state = .filling ∨ (v.slot f).state = .completing →
    x.current ≠ some f → x.current = none ∨ x.holdTarget ≤ min 15 (x.shown + 1) →
    let v' := v.windowFrameStart w
    let chases :=
      x.guard ≠ 0 ∧ (∃ p : PortId, y.source = some (.input p)) ∧ seqNewer (v.slot f).seq x.readySeq = true ∧
        x.guard ≤ (v.slot f).committed
    (chases →
      (v'.window w).state = .chasing ∧ (v'.window w).current = some f ∧
      (v'.window w).fallback =
        (match x.current with
          | some c => if (v.slot c).state = .ready then some c else v.newestReady st
          | none => v.newestReady st) ∧
      (v'.window w).readySeq = x.readySeq ∧ (v'.window w).latches = satInc x.latches ∧
      (v'.window w).holdTarget = x.cadence.getD x.cursor 0 ∧ (v'.window w).shown = 0 ∧
      winHas (v'.slot f).readers w = true ∧ (v'.slot f).seen = true ∧
      ∀ b : SlotId, (v'.window w).fallback = some b → winHas (v'.slot b).readers w = true) ∧
    (¬ chases → (v'.window w).state ≠ .chasing ∧ (v'.window w).current ≠ some f)) ∧
  ∀ (v : Video) (w : WindowId) (st : StreamId) (c : SlotId),
    let x := v.window w
    let y := v.stream st
    v.PoolsOk → v.ReadersOk → x.state = .chasing → x.stream = some st → x.current = some c → y.live = true →
    y.delivery = .newest → y.bpp = (v.port (portOf w)).bpp → x.x0 + x.w ≤ y.width → x.y0 + x.h ≤ y.height →
    let v' := v.windowFrameStart w
    let shown := min 15 (x.shown + 1)
    let holds := shown < x.holdTarget
    let q := (v.slot c).seq
    let chases := fun f : SlotId =>
      y.fillTarget = some f ∧ f ≠ c ∧ ((v.slot f).state = .filling ∨ (v.slot f).state = .completing) ∧ x.guard ≠ 0 ∧
        (∃ p : PortId, y.source = some (.input p)) ∧ x.guard ≤ (v.slot f).committed ∧
        seqNewer (v.slot f).seq q = true ∧
        ((v.slot c).state = .ready ∨ seqNewer (v.slot f).seq x.readySeq = true)
    let stays :=
      holds ∨ (∀ f : SlotId, ¬ chases f) ∧ (v.newestReady st = none ∨ seqNewer y.newest q = false)
    let started :=
      { x with
        shown := 0, latches := satInc x.latches, holdTarget := x.cadence.getD x.cursor 0
        cursor := if x.cursor + 1 < x.cadence.length then x.cursor + 1 else 0 }
    -- R57: the chased frame was published
    ((v.slot c).state = .ready → stays →
      v'.window w =
        { x with
          state := .showing, fallback := none, readySeq := q, shown := shown
          repeats := if holds then x.repeats else satInc x.repeats } ∧
      winHas (v'.slot c).readers w = true ∧ ∀ j : SlotId, j ≠ c → winHas (v'.slot j).readers w = false) ∧
    -- R77: the chased frame is still being written
    ((v.slot c).state = .filling ∨ (v.slot c).state = .completing → stays →
      v'.window w =
        { x with
          fallback := none, shown := shown, repeats := if holds then x.repeats else satInc x.repeats } ∧
      v'.slot c = v.slot c ∧ ∀ j : SlotId, j ≠ c → winHas (v'.slot j).readers w = false) ∧
    ((v.slot c).state = .ready ∨ (v.slot c).state = .filling ∨ (v.slot c).state = .completing → ¬ holds →
      -- R77: a new chase
      (∀ f : SlotId, chases f →
        let fallback := if (v.slot c).state = .ready then some c else v.newestReady st
        v'.window w =
          { started with
            current := some f, fallback := fallback
            readySeq := if (v.slot c).state = .ready then q else x.readySeq } ∧
        (v'.slot f).seen = true ∧
        ∀ j : SlotId, winHas (v'.slot j).readers w = true ↔ j = f ∨ fallback = some j) ∧
      -- R59: a newer READY frame
      (∀ i : SlotId, (∀ f : SlotId, ¬ chases f) → v.newestReady st = some i → seqNewer y.newest q = true →
        v'.window w =
          { started with state := .showing, current := some i, fallback := none, readySeq := y.newest } ∧
        (v'.slot i).seen = true ∧ ∀ j : SlotId, winHas (v'.slot j).readers w = true ↔ j = i))

/-- R15, R67, R83: the abandon of a frame that exactly one window chases, from a slot that is not leaving. The window
switches at once to its fallback, or holds nothing when it has none; a chase fault is counted and raised, and a wait
on the window is over. In the line stores of its port a line of the window that was being fetched, of a window without a
fallback, is to be painted in the border colour when a burst of it was not granted yet, and is kept for emission when all
were; that such a line is shown is the model's reading (log 11). No other part of a port changes. -/
def Obligations.ForcedFallback : Prop :=
  ∀ (v : Video) (w : WindowId) (st : StreamId) (i : SlotId),
    let x := v.window w
    (v.slot i).owner = some st → (v.slot i).state = .filling ∨ (v.slot i).state = .completing →
    (v.slot i).leaving = false → (v.slot i).readers = winBit w → x.state = .chasing → x.current = some i →
    let v' := v.abandon i
    (v'.slot i).state = .empty ∧ (v'.slot i).seq = 0 ∧ (v'.slot i).readers = 0 ∧
    (v'.stream st).abandoned = satInc (v.stream st).abandoned ∧
    v'.window w =
      (match x.fallback with
        | some f =>
          { x with
            state := .showing, current := some f, fallback := none, readySeq := (v.slot f).seq
            chaseFaults := satInc x.chaseFaults }
        | none =>
          { x with
            state := .idle, current := none, holdTarget := 0, shown := 0, chaseFaults := satInc x.chaseFaults }) ∧
    (∀ k : WindowId, k ≠ w → v'.window k = v.window k) ∧
    (v'.attn.entry (windowEntry w)).pending = (v.attn.entry (windowEntry w)).pending ||| 2 ∧
    let pt := v.port (portOf w)
    let pt' := v'.port (portOf w)
    pt' = { pt with wait := pt'.wait, stores := pt'.stores } ∧ (∀ p : PortId, p ≠ portOf w → v'.port p = v.port p) ∧
    pt'.wait = (pt.wait.filter fun wt => !decide (wt.layer = layerOf w)) ∧
    ∀ k : Fin 4, pt'.stores[k].line = pt.stores[k].line ∧
      ∀ l : Layer,
        let part := pt.stores[k].parts[l]
        pt'.stores[k].parts[l] =
          if x.fallback = none ∧ l = layerOf w ∧ part.mark = some .fetch then
            if ∃ r ∈ pt.pendingReads, r.layer = l ∧ pt.stores[k].line = some r.line then
              { part with mark := some .border }
            else { part with kept := true }
          else part

/-- R78, R79, R80, R112, R113, R114: the fetcher of a port. One decision settles one window's part of the fetch line, in
layer order, by the row of R113's table: no part, the mark BORDER, the mark FETCH with the crop's reads of the source line
appended in burst order, or the wait with its window, slot, source line and fetch line. When all four windows are decided
the next line begins, at most three lines ahead of emission, in the free store with the lowest number (the model's choice,
log 39), and after the last active line the fetch line is done. The fetcher of an OFF port, one that waits and one that is
done decide nothing. Run from a line not behind emission it makes decisions until it waits, is done or has its lead; so it
has done after every line start of an active line and after every frame start, and a fetcher whose wait has ended resumes
with the window it waited on (the place `fetchLayer` is the model's own, log 20). Whatever it adds to its pending list is
a read of a window's current slot, of a source line that is committed there and that the window shows on the line, and of
a burst that holds bytes of the window's crop. -/
def Obligations.FetchOnlyCommitted : Prop :=
  (∀ (v : Video) (p : PortId) (r : PendingRead), r ∈ ((v.pump p).port p).pendingReads →
    r ∈ (v.port p).pendingReads ∨
        let x := v.window (winOf p r.layer)
        x.current = some r.slot ∧ x.state ≠ .clear ∧ r.srcLine < (v.slot r.slot).committed ∧
        x.dy ≤ r.line ∧ r.line < x.dy + x.h * x.vrep ∧ r.srcLine = x.y0 + (r.line - x.dy) / x.vrep ∧
        ∀ st : StreamId, x.stream = some st →
          x.x0 * (v.stream st).bpp / 64 ≤ r.burst ∧ r.burst ≤ ((x.x0 + x.w) * (v.stream st).bpp - 1) / 64) ∧
  -- one decision
  (∀ (v : Video) (p : PortId),
    let pt := v.port p
    (pt.on = false ∨ pt.wait ≠ none ∨ pt.fetchLine = none → v.pumpStep p = v) ∧
    ∀ y : Nat, pt.on = true → pt.wait = none → pt.fetchLine = some y →
      (∀ l : Layer, pt.fetchLayer = l.val →
        let x := v.window (winOf p l)
        let covers := x.state ≠ .clear ∧ x.dy ≤ y ∧ y < x.dy + x.h * x.vrep
        let line := x.y0 + (y - x.dy) / x.vrep
        let marked := fun m : Mark =>
          match pt.storeOf y with
          | some k =>
            pt.stores.set k
              { pt.stores[k] with parts := pt.stores[k].parts.set l { pt.stores[k].parts[l] with mark := some m } }
          | none => pt.stores
        let bordered := v.setPort p { pt with fetchLayer := l.val + 1, stores := marked .border }
        (¬ covers → v.pumpStep p = v.setPort p { pt with fetchLayer := l.val + 1 }) ∧
        (covers → x.current = none → v.pumpStep p = bordered) ∧
        ∀ i : SlotId, covers → x.current = some i →
          ((v.slot i).state = .ready ∨ (v.slot i).state = .detached → (v.slot i).committed ≤ line →
            v.pumpStep p = bordered) ∧
          (∀ st : StreamId, x.stream = some st → line < (v.slot i).committed →
            let first := x.x0 * (v.stream st).bpp / 64
            let last := ((x.x0 + x.w) * (v.stream st).bpp - 1) / 64
            v.pumpStep p =
              v.setPort p
                { pt with
                  fetchLayer := l.val + 1, stores := marked .fetch
                  pendingReads :=
                    pt.pendingReads ++
                      (List.range (last + 1 - first)).map fun k =>
                        { layer := l, line := y, srcLine := line, burst := first + k, slot := i } }) ∧
          ((v.slot i).state = .filling ∨ (v.slot i).state = .completing → (v.slot i).committed ≤ line →
            v.pumpStep p = v.setPort p { pt with wait := some { layer := l, slot := i, srcLine := line, line := y } })) ∧
      (pt.fetchLayer = 4 →
        (pt.activeLines ≤ y + 1 → v.pumpStep p = v.setPort p { pt with fetchLine := none }) ∧
        (y + 1 < pt.activeLines → pt.emissionLine + 3 < y + 1 → v.pumpStep p = v) ∧
        (y + 1 < pt.activeLines → y + 1 ≤ pt.emissionLine + 3 →
          ∀ k : Fin 4, pt.stores[k].line = none → (∀ j : Fin 4, j < k → pt.stores[j].line ≠ none) →
            v.pumpStep p =
              v.setPort p
                { pt with
                  fetchLine := some (y + 1), fetchLayer := 0
                  stores := pt.stores.set k { LineStore.free with line := some (y + 1) } }))) ∧
  -- as many decisions as the lead allows
  (∀ (v : Video) (p : PortId), (∀ y, (v.port p).fetchLine = some y → (v.port p).emissionLine ≤ y) →
    let pt := v.port p
    let pt' := (v.pump p).port p
    v.pump p = (v.pumpStep p).pump p ∧ (v.pumpStep p = v → v.pump p = v) ∧ v.pump p = v.setPort p pt' ∧
    (pt.on = true →
      pt'.wait ≠ none ∨ pt'.fetchLine = none ∨
        ∃ y, pt'.fetchLine = some y ∧ 4 ≤ pt'.fetchLayer ∧ y + 1 < pt.activeLines ∧ pt.emissionLine + 3 ≤ y) ∧
    ∀ y y', pt.fetchLine = some y → pt'.fetchLine = some y' → y ≤ y' ∧ (y' = y ∨ y' ≤ pt.emissionLine + 3)) ∧
  (∀ (s t : State) (p : PortId), s.channel.draining = false → exec (.lineStart p) s = .next t →
    let pt := s.video.port p
    let line := pt.lineCounter + 1
    pt.on = true →
    (pt.frameTotal ≤ line ∨
      line < pt.frameTotal ∧
        ∃ y, line = pt.topBlank + y ∧ y < pt.activeLines ∧ ∀ f, pt.fetchLine = some f → y ≤ f) →
    t.video.pumpStep p = t.video) ∧
  -- after a wait
  ∀ (before v : Video) (p : PortId),
    let v' := Video.resumeFrom before v
    v' = { v with ports := v'.ports } ∧
    v'.port p =
      if (before.port p).wait ≠ none ∧ (v.port p).wait = none then (v.pump p).port p else v.port p

/-! ## Ingest ports (Chapter 5) -/

/-- R10, R36, R95, R96, R128: a frame start at a port. ARMED, SKIPPING and LOST ports restart the loss timer and take a
fill target, CAPTURING it, or report the overflow and SKIP the frame; a LOST port reports its input back first. The
frame start of a RUNNING stream is then offered to the lock units; that the take comes first is the model's choice
(log 15). A CAPTURING port first ends its frame as a frame end does. A BOUND port counts the frame, an UNBOUND one
ignores it. -/
def Obligations.InputFrameStarts : Prop :=
  ∀ (s : State) (p : PortId), s.channel.draining = false →
    let g := s.video.input p
    (g.state = .unbound → exec (.inputFrameStart p) s = .next s) ∧
    (g.state = .bound →
      exec (.inputFrameStart p) s =
        .next { s with video := s.video.setInput p { g with framesSeen := satInc g.framesSeen } }) ∧
    (∀ st : StreamId, g.stream = some st → g.state = .armed ∨ g.state = .skipping ∨ g.state = .lost →
      let v₀ := if g.state = .lost then s.video.raise (streamEntry st) 2 else s.video
      let offered := fun v : Video =>
        if (s.video.stream st).state = .running then Video.resumeFrom s.video (v.offerReference st) else v
      let quiet := ∀ u : PortId, (s.video.lock u).state = .unlocked ∨ (s.video.lock u).refStream ≠ st
      (∀ (v : Video) (i : SlotId) (q : Seq), v₀.take st = (v, .taken i q) →
        let after :=
          v.setInput p
            { g with
              state := .capturing, framesSeen := satInc g.framesSeen, lossTimer := some 0
              target := some (i, q), lineOpen := false, lineIndex := 0, linesReceived := 0, pixelCount := 0
              burstsFormed := 0, packer := []
              frames := g.frames ++ [{ slot := i, seq := q, ended := false, commitPoint := 0, lines := [] }] }
        exec (.inputFrameStart p) s = .next { s with video := offered after } ∧
        (quiet → exec (.inputFrameStart p) s = .next { s with video := after })) ∧
      (v₀.take st = (v₀, .noTarget) →
        let after :=
          ((v₀.setStream st
              { s.video.stream st with overflowed := satInc (s.video.stream st).overflowed }).raise
            (streamEntry st) 4).setInput p
            { g with state := .skipping, framesSeen := satInc g.framesSeen, lossTimer := some 0 }
        exec (.inputFrameStart p) s = .next { s with video := offered after } ∧
        (quiet → exec (.inputFrameStart p) s = .next { s with video := after }))) ∧
    ∀ (st : StreamId) (i : SlotId) (q : Seq), g.state = .capturing → g.stream = some st → g.target = some (i, q) →
      (g.stopPending = true →
        exec (.inputFrameStart p) s =
          exec (.inputFrameEnd p)
            { s with video := s.video.setInput p { g with framesSeen := satInc g.framesSeen } }) ∧
      (g.stopPending = false → (∀ u : PortId, (s.video.port u).wait = none) →
        ∃ t, exec (.inputFrameEnd p) s = .next t ∧
          (t.video.fillingOf st = none → exec (.inputFrameStart p) s = exec (.inputFrameStart p) t))

/-- R91, R92, R93, R100: the markers and pixels of a CAPTURING port with its target's slot FILLING, and the rows of R92
for a burst that is ready. A line end forms a last burst of the bytes left, the bytes beyond them 0. The commit point
then passes every line that has ended with no burst outstanding, in order and below the height, with one commit claim
when it moves; a line of another length, or at or beyond the height, is damage. A line start while a line is open ends
that line first. -/
def Obligations.LinesPixelsAndBursts : Prop :=
  (∀ (s : State) (p : PortId) (st : StreamId) (i : SlotId) (q : Seq), s.channel.draining = false →
    let g := s.video.input p
    let x := s.video.stream st
    g.state = .capturing → g.stream = some st → g.target = some (i, q) →
    (g.lineOpen = false →
      exec (.inputLineStart p) s =
        .next
          { s with
            video :=
              s.video.setInput p { g with lineOpen := true, pixelCount := 0, burstsFormed := 0, packer := [] } } ∧
      exec (.inputLineEnd p) s = .next s ∧ ∀ data, exec (.pixel p data) s = .next s) ∧
    (g.lineOpen = true → ∃ t, exec (.inputLineEnd p) s = .next t ∧ exec (.inputLineStart p) s = exec (.inputLineStart p) t) ∧
    (∀ data : BitVec 32, g.lineOpen = true →
      let bytes := g.packer ++ (List.range x.bpp).map fun k => data.extractLsb' (8 * k) 8
      let count := if g.pixelCount < 65535 then g.pixelCount + 1 else g.pixelCount
      (bytes.length < 64 →
        exec (.pixel p data) s =
          .next { s with video := s.video.setInput p { g with pixelCount := count, packer := bytes } }) ∧
      (64 ≤ bytes.length →
        exec (.pixel p data) s =
          .next
            { s with
              video :=
                (s.video.setInput p
                    { g with
                      pixelCount := count
                      burstsFormed := if g.burstsFormed < 1024 then g.burstsFormed + 1 else g.burstsFormed
                      packer := bytes.drop 64 }).burstReady p st
                  { tag := { slot := i, seq := q, line := g.lineIndex, burst := g.burstsFormed }
                    data := Vector.ofFn fun k => bytes.getD k.val 0 } })) ∧
    (g.lineOpen = true → g.packer ≠ [] →
      exec (.inputLineEnd p) s =
        exec (.inputLineEnd p)
          { s with
            video :=
              (s.video.setInput p
                  { g with
                    burstsFormed := if g.burstsFormed < 1024 then g.burstsFormed + 1 else g.burstsFormed
                    packer := [] }).burstReady p st
                { tag := { slot := i, seq := q, line := g.lineIndex, burst := g.burstsFormed }
                  data := Vector.ofFn fun k => g.packer.getD k.val 0 } }) ∧
    (g.lineOpen = true → g.packer = [] → g.lineIndex < x.height → g.lineIndex < 65535 →
      (s.video.slot i).state = .filling → (s.video.slot i).seq = q →
      (s.video.slot i).committed = g.lineIndex →
      g.frames =
        [{ slot := i, seq := q, ended := false, commitPoint := g.lineIndex
           lines := [{ line := g.lineIndex, ended := false, outstanding := 0 }] }] →
      ∃ v : Video, exec (.inputLineEnd p) s = .next { s with video := v } ∧
        v.input p =
          { g with
            lineOpen := false, lineIndex := g.lineIndex + 1, linesReceived := g.linesReceived + 1
            frames := [{ slot := i, seq := q, ended := false, commitPoint := g.lineIndex + 1, lines := [] }] } ∧
        v.slot i =
          { s.video.slot i with
            committed := g.lineIndex + 1
            damage :=
              if g.pixelCount = x.width then (s.video.slot i).damage else (s.video.slot i).damage ||| 8 } ∧
        v.streams = s.video.streams ∧ v.windows = s.video.windows) ∧
    ∀ (old : List FrameEntry) (entry : FrameEntry) (pre post : List LineRec) (n point : Nat), g.lineOpen = true →
      g.packer = [] → (s.video.slot i).state = .filling → (s.video.slot i).seq = q → g.frames = old ++ [entry] →
      (∀ e ∈ old, ¬(e.slot = i ∧ e.seq = q)) → entry.slot = i → entry.seq = q →
      (entry.lines = pre ++ { line := g.lineIndex, ended := false, outstanding := n } :: post ∨
        entry.lines = pre ∧ post = [] ∧ n = 0) →
      let lines := pre ++ { line := g.lineIndex, ended := true, outstanding := n } :: post
      let whole := fun k : Nat => k < x.height ∧ { line := k, ended := true, outstanding := 0 } ∈ lines
      (lines.map LineRec.line).Nodup → entry.commitPoint ≤ point →
      (∀ k : Nat, entry.commitPoint ≤ k → k < point → whole k) → ¬ whole point →
      let sl := s.video.slot i
      ∃ v : Video, exec (.inputLineEnd p) s = .next { s with video := v } ∧
        v.input p =
          { g with
            lineOpen := false
            lineIndex := if g.lineIndex < 65535 then g.lineIndex + 1 else g.lineIndex
            linesReceived := if g.lineIndex < x.height then g.linesReceived + 1 else g.linesReceived
            frames :=
              old ++
                [{ entry with
                  commitPoint := point
                  lines := lines.filter fun r => decide (r.line < entry.commitPoint ∨ point ≤ r.line) }] } ∧
        v.slot i =
          { sl with
            committed := if entry.commitPoint < point then max sl.committed point else sl.committed
            damage :=
              if x.height ≤ g.lineIndex then sl.damage ||| 4
              else if g.pixelCount = x.width then sl.damage
              else sl.damage ||| 8 } ∧
        v.streams = s.video.streams ∧ v.windows = s.video.windows) ∧
  ∀ (v : Video) (p : PortId) (st : StreamId) (b : BurstEntry),
    let g := v.input p
    let x := v.stream st
    let dropped := fun k => (v.markDamage b.tag.slot b.tag.seq k).setInput p
      { g with burstsDropped := satInc g.burstsDropped }
    (x.height ≤ b.tag.line → v.burstReady p st b = dropped .longFrame) ∧
    (b.tag.line < x.height → (x.width * x.bpp + 63) / 64 ≤ b.tag.burst →
      v.burstReady p st b = dropped .lineLength) ∧
    (b.tag.line < x.height → b.tag.burst < (x.width * x.bpp + 63) / 64 → 32 ≤ g.fifo.length →
      v.burstReady p st b = dropped .overrun) ∧
    (b.tag.line < x.height → b.tag.burst < (x.width * x.bpp + 63) / 64 → g.fifo.length < 32 →
      v.burstReady p st b =
        v.setInput p
          { g with
            fifo := g.fifo ++ [b]
            run := if g.normalMark ≤ g.fifo.length + 1 then true else g.run
            frames := g.frames.map fun e =>
              if e.slot = b.tag.slot ∧ e.seq = b.tag.seq then
                e.modLine b.tag.line fun r => { r with outstanding := r.outstanding + 1 }
              else e })

/-- R13, R14, R42, R94, R99, R101, R102: a frame end of a CAPTURING port ends an open line first. The frame is short when
lines are missing, whatever lines of it are still to be committed and whatever older frames stand before it. It is
COMPLETING, the rest of the FIFO is flushed, and the complete claims are made down the frame list: while the first frame
of the list has not ended, or has a burst left in the FIFO or on the channel, there is none; a first frame with none left
completes, and then the frames behind it. A frame that stands first with nothing left is so published, or discarded, as
its damage says, in the same happening. An orphan in flight is no burst of a frame. The port is ARMED, or BOUND with its
stream OPEN when a stop was pending. -/
def Obligations.InputFrameEnds : Prop :=
  ∀ (s : State) (p : PortId) (st : StreamId) (i : SlotId) (q : Seq) (old : List FrameEntry) (entry : FrameEntry),
    s.channel.draining = false →
    let g := s.video.input p
    let x := s.video.stream st
    let sl := s.video.slot i
    g.state = .capturing → g.stream = some st → g.target = some (i, q) →
    (g.lineOpen = true → (∀ u : PortId, (s.video.port u).wait = none) →
      ∃ t, exec (.inputLineEnd p) s = .next t ∧ exec (.inputFrameEnd p) s = exec (.inputFrameEnd p) t) ∧
    (g.lineOpen = false → g.frames = old ++ [entry] → (∀ e ∈ old, ¬(e.slot = i ∧ e.seq = q)) →
      entry.slot = i → entry.seq = q → sl.state = .filling → sl.seq = q →
    let damage : DamageSet := if g.linesReceived < x.height then sl.damage ||| 2 else sl.damage
    let left := fun e : FrameEntry =>
      (∃ b ∈ g.fifo, b.tag.slot = e.slot ∧ b.tag.seq = e.seq) ∨
        ∃ t ∈ g.ownWrites p s.channel.inFlight, t.isOf p e.slot e.seq = true
    let closed := s.video.setSlot i { sl with state := .completing, damage := damage }
    let frames := old ++ [{ entry with ended := true }]
    let ended := { g with target := none, tailFlush := g.tailFlush || !g.fifo.isEmpty, frames := frames }
    let finish := fun v : Video =>
      if g.stopPending = true then
        (v.setInput p { v.input p with state := .bound, lossTimer := none, stopPending := false }).setStream st
          { v.stream st with
            state := if (v.stream st).state = .stopping then .opened else (v.stream st).state }
      else v.setInput p { v.input p with state := .armed }
    (∀ (first : FrameEntry) (rest : List FrameEntry), frames = first :: rest →
      (first.ended = false ∨ left first →
        exec (.inputFrameEnd p) s = .next { s with video := finish (closed.setInput p ended) }) ∧
      (first.ended = true → ¬ left first →
        let v := (closed.setInput p ended).complete first.slot first.seq
        exec (.inputFrameEnd p) s =
          .next
            { s with
              video :=
                Video.resumeFrom s.video
                  (finish
                    ((v.setInput p { v.input p with frames := rest }).completeFrames p s.channel.inFlight)) })) ∧
    (old = [] → ¬ left entry →
      exec (.inputFrameEnd p) s =
        .next
          { s with
            video :=
              Video.resumeFrom s.video (finish ((closed.setInput p { ended with frames := [] }).complete i q)) }) ∧
    (old = [] → g.stopPending = false → sl.owner = some st →
    ((∃ b ∈ g.fifo, b.tag.slot = i ∧ b.tag.seq = q) →
      exec (.inputFrameEnd p) s =
        .next
          { s with
            video :=
              (s.video.setSlot i { sl with state := .completing, damage := damage }).setInput p
                { g with
                  state := .armed, target := none, tailFlush := true
                  frames := [{ entry with ended := true }] } }) ∧
    (g.fifo = [] → (∀ x ∈ s.channel.inFlight, x.isOf p i q = false) → damage &&& x.discardMask = 0 →
      s.video.newestReady st = none → x.delivery = .newest → (∀ u : PortId, (s.video.port u).wait = none) →
      exec (.inputFrameEnd p) s =
        .next
          { s with
            video :=
              let v :=
                ((s.video.setSlot i { sl with state := .ready, damage := damage, owed := 0 }).setStream st
                    { x with
                      newest := q
                      published := satInc x.published
                      fillTarget := if x.fillTarget = some i then none else x.fillTarget }).setInput p
                  { g with state := .armed, target := none, frames := [] }
              if damage = 0 then v else v.raise (streamEntry st) 8 })))

/-- R15, R36, R42, R97, R132: the loss timeout of a port. The loss is counted and raised, and the port is LOST with its
timer stopped, or BOUND with its stream OPEN when a stop was pending; a CAPTURING port first gives up its frame, and
slots, windows and streams are as the abandon claim leaves them when windows chase it or its slot is leaving. The lock
units that follow a RUNNING stream are in HOLDOVER. A timer that does not run times nothing out (log 3). While no
command waits, a step is one millisecond (the model's choice, log 2): every running timer counts it, and the timeout of
a port occurs when its timer reaches the limit. While the channel drains for a soft reset the timers do not count and
such a step changes nothing, which is the model's reading (log 17). Which fields of the line state are cleared with the
frame is the model's choice too (log 22). -/
def Obligations.LossTimeouts : Prop :=
  (∀ (s : State) (p : PortId) (st : StreamId), s.channel.draining = false →
    let g := s.video.input p
    let x := s.video.stream st
    let x' := { x with
      lost := satInc x.lost
      state := if g.stopPending = true ∧ x.state = .stopping then .opened else x.state }
    let units := fun v : Video => ∀ u : PortId,
      let unit := s.video.lock u
      let lost :=
        g.stopPending = false ∧ x.state = .running ∧ unit.refStream = st ∧
          (unit.state = .acquiring ∨ unit.state = .locked)
      v.lock u = (if lost then { unit with state := .holdover, countdown := 1 } else unit) ∧
      v.port u =
        (if lost ∧ (s.video.port u).on = true then
          { s.video.port u with nextTotal := (s.video.port u).totalLines }
        else s.video.port u)
    g.stream = some st →
    (g.lossTimer = none → exec (.lossTimeout p) s = .next s) ∧
    (g.lossTimer ≠ none → g.state = .armed ∨ g.state = .skipping →
      (∃ v : Video, exec (.lossTimeout p) s = .next { s with video := v } ∧
        v =
          { ((s.video.setStream st x').raise (streamEntry st) 1).setInput p
              (if g.stopPending = true then { g with state := .bound, lossTimer := none, stopPending := false }
              else { g with state := .lost, lossTimer := none }) with
            locks := v.locks, ports := v.ports } ∧
        units v) ∧
      (g.stopPending = false → (∀ u : PortId, (s.video.lock u).state = .unlocked ∨ (s.video.lock u).refStream ≠ st) →
        exec (.lossTimeout p) s =
          .next
            { s with
              video :=
                ((s.video.setStream st { x with lost := satInc x.lost }).raise (streamEntry st) 1).setInput p
                  { g with state := .lost, lossTimer := none } })) ∧
    (∀ (i : SlotId) (q : Seq), g.lossTimer ≠ none → g.state = .capturing → g.target = some (i, q) →
      (s.video.slot i).state = .filling → (s.video.slot i).seq = q → (s.video.slot i).owner = some st →
      (s.video.slot i).readers = 0 → (s.video.slot i).leaving = false →
      ∃ v : Video, exec (.lossTimeout p) s = .next { s with video := v } ∧
        (∀ j : SlotId, v.slot j =
          if j = i then
            { s.video.slot i with
              state := .empty, seq := 0, committed := 0, damage := 0, readers := 0, seen := false }
          else s.video.slot j) ∧
        v.stream st =
          { x' with
            abandoned := satInc x.abandoned
            fillTarget := if x.fillTarget = some i then none else x.fillTarget } ∧
        (v.attn.entry (streamEntry st)).pending = (s.video.attn.entry (streamEntry st)).pending ||| 1 ∧
        (v.input p).state = (if g.stopPending = true then .bound else .lost) ∧ (v.input p).stopPending = false ∧
        (v.input p).lossTimer = none ∧ (v.input p).target = none ∧
        (v.input p).lineOpen = false ∧ (v.input p).lineIndex = 0 ∧ (v.input p).linesReceived = 0 ∧
        (v.input p).packer = [] ∧
        (∀ b : BurstEntry, b ∈ (v.input p).fifo ↔ b ∈ g.fifo ∧ ¬(b.tag.slot = i ∧ b.tag.seq = q)) ∧
        ((v.input p).tailFlush = true → (v.input p).fifo ≠ []) ∧
        v.windows = s.video.windows ∧ units v) ∧
    ∀ (i : SlotId) (q : Seq), g.lossTimer ≠ none → g.state = .capturing → g.target = some (i, q) →
      (s.video.slot i).state = .filling → (s.video.slot i).seq = q → (s.video.slot i).owner = some st →
      let a := s.video.abandon i
      ∃ v : Video, exec (.lossTimeout p) s = .next { s with video := v } ∧
        v.slots = a.slots ∧ v.windows = a.windows ∧
        (∀ y : StreamId, v.stream y =
          if y = st then
            { a.stream st with
              lost := satInc x.lost
              state := if g.stopPending = true ∧ x.state = .stopping then .opened else (a.stream st).state }
          else a.stream y) ∧
        (∀ e : EntryId, (v.attn.entry e).pending =
          if e = streamEntry st then (a.attn.entry e).pending ||| 1 else (a.attn.entry e).pending) ∧
        (v.input p).state = (if g.stopPending = true then .bound else .lost) ∧ (v.input p).target = none) ∧
  ∀ s : State, s.pending = [] →
    let due := fun u : PortId =>
      let g := s.video.input u
      (g.state = .armed ∨ g.state = .capturing ∨ g.state = .skipping) ∧ ∃ k, g.lossTimer = some k ∧ g.lossTimeout ≤ k + 1
    let counted := fun u : PortId =>
      let g := s.video.input u
      if g.state = .armed ∨ g.state = .capturing ∨ g.state = .skipping then
        { g with lossTimer := g.lossTimer.map (· + 1) }
      else g
    (s.channel.draining = true → step s = .next s) ∧
    (s.channel.draining = false → (∀ u : PortId, ¬ due u) →
      step s = .next { s with video := { s.video with ingest := Vector.ofFn counted } }) ∧
    ∀ p : PortId, s.channel.draining = false → due p → (∀ u : PortId, u ≠ p → counted u = s.video.input u) →
      step s = exec (.lossTimeout p) { s with video := s.video.setInput p (counted p) }

/-- R29, R88, R98, R99: every stream's geometry is in its range, every packer holds fewer than 64 bytes, every write
FIFO holds at most 32 bursts and its run and tail flush follow its level, and every step keeps it so. -/
def Obligations.IngestKept : Prop :=
  ∀ s t : State, s.video.GeometryOk → (∀ p : PortId, (s.video.input p).FifoOk) → step s = .next t →
    t.video.GeometryOk ∧ ∀ p : PortId, (t.video.input p).FifoOk

/-! ## Scan-out ports and output frame lock (Chapters 6 and 7) -/

/-- R66, R108, R120, R121, R122, R135: PORT_SET of an OFF port writes its timing, PORT_ON places the line counter at
the last line of a frame, and PORT_OFF leaves the port idle, its windows holding nothing and its lock unit UNLOCKED.
That PORT_OFF sets the next total back to total lines is the model's reading of R127 (log 21). That it keeps the line
counter, the emission line, the fetch line and the fetcher's place on it is the model's choice (log 40), and so is that
PORT_SET keeps all of these, whatever the new timing, and PORT_ON all but the line counter (log 42). -/
def Obligations.PortCommands : Prop :=
  ∀ (s : State) (tag : Byte) (p : PortId), LinkFree s →
    let pt := s.video.port p
    let u := s.video.lock p
    (∀ (bpp topBlank urgentLead : Byte) (width lines total length : BitVec 16) (border underrun : BitVec 32),
      pt.on = false → 2 ≤ bpp.toNat → bpp.toNat ≤ 4 → 16 ≤ width.toNat → width.toNat ≤ 4096 → 16 ≤ lines.toNat →
      lines.toNat ≤ 4096 → 2 ≤ topBlank.toNat → topBlank.toNat + lines.toNat + 1 ≤ total.toNat →
      total.toNat ≤ 8191 → width.toNat + 16 ≤ length.toNat → length.toNat ≤ 16383 → urgentLead.toNat ≤ 2 →
      exec (.portSet tag (natByte p.val) bpp width lines topBlank total length border underrun urgentLead) s =
        .next
          (s.carriedOut tag 0x40 []
            ((s.video.setPort p
                { pt with
                  bpp := bpp.toNat, activeWidth := width.toNat, activeLines := lines.toNat
                  topBlank := topBlank.toNat, totalLines := total.toNat, lineLength := length.toNat
                  borderColour := border, underrunColour := underrun, urgentLead := urgentLead.toNat
                  frameTotal := total.toNat, nextTotal := total.toNat, timingValid := true }).setLock p
              (if u.configured = true ∧
                  (total.toNat < topBlank.toNat + lines.toNat + 1 + u.delta ∨ 8191 < total.toNat + u.delta) then
                { u with configured := false, refStream := 0, interval := 1, window := 0, delta := 1 }
              else u)))) ∧
    (pt.on = false → pt.timingValid = true → s.channel.cal = .ready →
      exec (.portOn tag (natByte p.val)) s =
        .next
          (s.carriedOut tag 0x41 []
            ((s.video.setPort p
                { pt with
                  on := true, frameTotal := pt.totalLines, nextTotal := pt.totalLines
                  lineCounter := pt.totalLines - 1 }).setLock p
              (if u.configured = true then
                { u with state := .acquiring, countdown := 1, samples := 0, firstFrameSeen := false }
              else { u with firstFrameSeen := false })))) ∧
    (pt.on = true →
      ∃ v : Video, exec (.portOff tag (natByte p.val)) s = .next (s.carriedOut tag 0x42 [] v) ∧
        v.port p =
          { pt with
            on := false, nextTotal := pt.totalLines, wait := none, pendingReads := []
            stores := Vector.replicate 4 LineStore.free
            pins := { pixels := [], fsync := false, lsync := false } } ∧
        v.lock p = { u with state := .unlocked } ∧
        (∀ w : WindowId, v.window w =
          if portOf w = p then
            { s.video.window w with
              current := none, fallback := none, holdTarget := 0, shown := 0
              state :=
                match (s.video.window w).state with
                | .showing | .chasing => .idle
                | other => other }
          else s.video.window w) ∧
        (∀ q : PortId, q ≠ p → v.port q = s.video.port q ∧ v.lock q = s.video.lock q) ∧
        (∀ (w : WindowId) (i : SlotId), portOf w = p → winHas (v.slot i).owed w = false) ∧
        v.ingest = s.video.ingest)

/-- R108, R109, R110, R112: the line starts of a port, by the part of the frame the next line belongs to. The store of
the line whose emission ends is freed, and at the start of an active line the fetcher is past that line. A frame start
counts, frees every store, ends a wait, runs the frame-start steps of the four windows, layer 0 first, and begins the
fetch of line 0, in the lowest-numbered store (the model's choice, log 39). An OFF port has no line start: the row
leaves it as it is (log 3). -/
def Obligations.LineStarts : Prop :=
  ∀ (s : State) (p : PortId), s.channel.draining = false →
    let pt := s.video.port p
    let line := pt.lineCounter + 1
    (pt.on = false → exec (.lineStart p) s = .next s) ∧
    (pt.on = true → line < pt.frameTotal →
      (line < pt.topBlank ∨ pt.topBlank + pt.activeLines < line →
        exec (.lineStart p) s =
          .next
            { s with
              video :=
                s.video.setPort p
                  { pt with lineCounter := line, pins := { pixels := [], fsync := false, lsync := true } } }) ∧
      (line = pt.topBlank + pt.activeLines → 1 ≤ pt.activeLines →
        ∃ t, exec (.lineStart p) s = .next t ∧ t = { s with video := t.video } ∧
          (t.video.port p).lineCounter = line ∧ (t.video.port p).pins.pixels = [] ∧
          (t.video.port p).pins.fsync = false ∧ (t.video.port p).emissionLine = pt.emissionLine ∧
          t.video = s.video.setPort p (t.video.port p) ∧
          (∀ k : Fin 4, pt.storeOf (pt.activeLines - 1) = some k → (t.video.port p).stores[k] = LineStore.free) ∧
          ∀ k : Fin 4, pt.stores[k].line ≠ some (pt.activeLines - 1) → (t.video.port p).stores[k] = pt.stores[k]) ∧
      (∀ y : Nat, line = pt.topBlank + y → y < pt.activeLines → (∀ f, pt.fetchLine = some f → y ≤ f) →
        ∃ t, exec (.lineStart p) s = .next t ∧ t = { s with video := t.video } ∧
          (t.video.port p).lineCounter = line ∧ (t.video.port p).emissionLine = y ∧
          (t.video.port p).pins.fsync = false ∧ (t.video.port p).pins.pixels.length = pt.activeWidth ∧
          (t.video.port p).frameNumber = pt.frameNumber ∧ (t.video.port p).wait.all (fun wt => wt.line != y) = true ∧
          (∀ r ∈ (t.video.port p).pendingReads, r.line ≠ y) ∧
          (∀ f, (t.video.port p).fetchLine = some f → y < f) ∧
          (∀ k : Fin 4, 1 ≤ y → pt.storeOf (y - 1) = some k → (t.video.port p).stores[k].line ≠ some (y - 1)) ∧
          t.video.ingest = s.video.ingest)) ∧
    (pt.on = true → pt.frameTotal ≤ line →
      ∃ t, exec (.lineStart p) s = .next t ∧ t = { s with video := t.video } ∧
        (t.video.port p).lineCounter = 0 ∧ (t.video.port p).frames = satInc pt.frames ∧
        (t.video.port p).frameNumber = pt.frameNumber + 1 ∧ (t.video.port p).frameTotal = pt.nextTotal ∧
        (t.video.port p).nextTotal = pt.totalLines ∧ (t.video.port p).emissionLine = 0 ∧
        (t.video.port p).cutFrames = pt.cutFrames ∧
        (t.video.port p).pins = { pixels := [], fsync := true, lsync := true } ∧
        t.video.lock p = { s.video.lock p with firstFrameSeen := true } ∧
        (∀ q : PortId, q ≠ p → t.video.lock q = s.video.lock q) ∧ t.video.ingest = s.video.ingest ∧
        let v₀ :=
          s.video.setPort p
            { pt with
              frames := satInc pt.frames, frameNumber := pt.frameNumber + 1, frameTotal := pt.nextTotal
              nextTotal := pt.totalLines, wait := none, pendingReads := []
              stores := Vector.replicate 4 LineStore.free, lineCounter := 0, emissionLine := 0
              pins := { pixels := [], fsync := true, lsync := true } }
        let v₁ := (List.finRange 4).foldl (fun v l => v.windowFrameStart (winOf p l)) v₀
        let v₂ :=
          v₁.setPort p
            { v₁.port p with
              fetchLine := some 0, fetchLayer := 0
              stores := (v₁.port p).stores.set 0 { LineStore.free with line := some 0 } }
        t.video = (v₂.pump p).setLock p { s.video.lock p with firstFrameSeen := true } ∧
        t.video = s.video.frameStart p)

/-- R51, R81, R82, R83, R117, R118, R119, R124: what a pixel of an active line is painted with. The highest window that
covers it and is not CLEAR decides it; a window that holds a slot shows the source pixel's bytes, lowest address on the
lowest lane, when all have arrived, and an underrun where one has not, or where the fetcher never reached the window. A
window that holds nothing shows the border colour, but for a line that a forced switch left granted in full, which is
shown (the model's reading of R83 and R124, log 11) with the bytes per pixel its window's stream has at the emission start
(the model's choice, log 43). At the emission start of an active line the pins carry the line so
painted, each window with an underrun pixel on it is counted and reported once, and a wait on the line is a chase fault:
the waiting window leaves the chased slot for its fallback, or holds nothing. -/
def Obligations.ComposedPixels : Prop :=
  (∀ (v : Video) (p : PortId) (y c : Nat),
    let covers := fun l : Layer =>
      let x := v.window (winOf p l)
      x.state ≠ .clear ∧ x.dy ≤ y ∧ y < x.dy + x.h * x.vrep ∧ x.dx ≤ c ∧ c < x.dx + x.w * x.hrep
    ((∀ l : Layer, ¬ covers l) → v.paintAt p y c = .border) ∧
    ∀ (l : Layer) (st : StreamId) (k : Fin 4), covers l → (∀ m : Layer, l < m → ¬ covers m) →
      (v.port p).storeOf y = some k →
      let x := v.window (winOf p l)
      let part := (v.port p).stores[k].parts[l]
      let source := (x.x0 + (c - x.dx) / x.hrep) * (v.stream st).bpp
      x.stream = some st →
      (x.current = none → part.kept = false → v.paintAt p y c = .border) ∧
      (x.current ≠ none → part.mark = some .border → v.paintAt p y c = .border) ∧
      (x.current ≠ none → part.mark = some .fetch →
        (∀ n < (v.stream st).bpp, part.byte? (source + n) ≠ none) → (v.stream st).bpp ≤ 4 →
        ∃ value : BitVec 32, v.paintAt p y c = .data value ∧
          (∀ n < (v.stream st).bpp, some (value.extractLsb' (8 * n) 8) = part.byte? (source + n)) ∧
          value.toNat < 256 ^ (v.stream st).bpp) ∧
      (x.current ≠ none → part.mark = some .fetch →
        (∃ n < (v.stream st).bpp, part.byte? (source + n) = none) → v.paintAt p y c = .underrun l) ∧
      (x.current = none → part.kept = true → part.mark = some .fetch →
        (∀ n < (v.stream st).bpp, part.byte? (source + n) ≠ none) → (v.stream st).bpp ≤ 4 →
        ∃ value : BitVec 32, v.paintAt p y c = .data value ∧
          (∀ n < (v.stream st).bpp, some (value.extractLsb' (8 * n) 8) = part.byte? (source + n)) ∧
          value.toNat < 256 ^ (v.stream st).bpp) ∧
      (x.current ≠ none → part.mark = none → v.paintAt p y c = .underrun l)) ∧
  (∀ (v : Video) (p : PortId) (y c : Nat) (l : Layer),
    let x := v.window (winOf p l)
    (v.port p).storeOf y = none → v.topLayer p y c = some l →
      v.paintAt p y c = if x.current = none then .border else .underrun l) ∧
  (∀ (pt : Port) (value : BitVec 32) (l : Layer), 2 ≤ pt.bpp → pt.bpp ≤ 4 →
    (pt.drive .border).toNat = pt.borderColour.toNat % 256 ^ pt.bpp ∧
    (pt.drive (.underrun l)).toNat = pt.underrunColour.toNat % 256 ^ pt.bpp ∧ pt.drive (.data value) = value) ∧
  ∀ (s : State) (p : PortId) (y : Nat), s.channel.draining = false →
    let pt := s.video.port p
    pt.on = true → pt.lineCounter + 1 = pt.topBlank + y → y < pt.activeLines → pt.lineCounter + 1 < pt.frameTotal →
    ∃ t, exec (.lineStart p) s = .next t ∧
      (t.video.port p).pins.pixels = (List.range pt.activeWidth).map (fun c => pt.drive (s.video.paintAt p y c)) ∧
      let late := fun l : Layer => ∃ c < pt.activeWidth, s.video.paintAt p y c = .underrun l
      let faulted := fun l : Layer => ∃ wt, pt.wait = some wt ∧ wt.line = y ∧ wt.layer = l
      (∀ w : WindowId, portOf w ≠ p → t.video.window w = s.video.window w) ∧
      ∀ l : Layer,
        let w := winOf p l
        let x := s.video.window w
        let x' := { x with underrunLines := if late l then satInc x.underrunLines else x.underrunLines }
        (t.video.attn.entry (windowEntry w)).pending =
          ((s.video.attn.entry (windowEntry w)).pending ||| (if late l then 1 else 0)
            ||| (if faulted l then 2 else 0)) ∧
        (¬ faulted l → t.video.window w = x') ∧
        (faulted l →
          t.video.window w =
            (match x.fallback with
              | some f =>
                { x' with
                  state := .showing, current := some f, fallback := none, readySeq := (s.video.slot f).seq
                  chaseFaults := satInc x.chaseFaults }
              | none =>
                { x' with
                  state := .idle, current := none, holdTarget := 0, shown := 0
                  chaseFaults := satInc x.chaseFaults }) ∧
          ∀ c : SlotId, x.current = some c → (s.video.slot c).state = .filling ∨ (s.video.slot c).state = .completing →
            (t.video.slot c).readers = winDrop (s.video.slot c).readers w ∧
              (t.video.slot c).state = (s.video.slot c).state)

/-- R108, R127: an OFF port waits for nothing, reads nothing, holds no line and drives its pins idle, its windows hold
nothing and its lock unit is UNLOCKED, and every step keeps it so. -/
def Obligations.PortsKept : Prop :=
  ∀ s t : State, s.video.PortsOk → step s = .next t → t.video.PortsOk

/-- R133, R134: LOCK_SET stores the configuration and starts acquisition when the port is ON; LOCK_CLEAR forgets it.
The last phase error is kept by both, the samples by LOCK_CLEAR. -/
def Obligations.LockCommands : Prop :=
  ∀ (s : State) (tag : Byte) (p : PortId), LinkFree s →
    let pt := s.video.port p
    let u := s.video.lock p
    let nominal := if pt.on then { pt with nextTotal := pt.totalLines } else pt
    (∀ (st : StreamId) (n w d : Byte), 1 ≤ n.toNat → n.toNat ≤ 16 → 1 ≤ d.toNat → d.toNat ≤ 15 →
      pt.timingValid = true → pt.topBlank + pt.activeLines + 1 + d.toNat ≤ pt.totalLines →
      pt.totalLines + d.toNat ≤ 8191 →
      exec (.lockSet tag (natByte p.val) (natByte st.val) n w d) s =
        .next
          (s.carriedOut tag 0x48 []
            ((s.video.setLock p
                { u with
                  configured := true, refStream := st, interval := n.toNat, window := w.toNat, delta := d.toNat
                  state := if pt.on then .acquiring else .unlocked
                  countdown := if pt.on then 1 else u.countdown
                  samples := if pt.on then 0 else u.samples }).setPort p nominal))) ∧
    exec (.lockClear tag (natByte p.val)) s =
      .next
        (s.carriedOut tag 0x49 []
          ((s.video.setLock p
              { u with
                configured := false, refStream := 0, interval := 1, window := 0, delta := 1
                state := .unlocked }).setPort p nominal))

/-- R111, R128, R129, R130, R131, R132: a reference frame start offered to one lock unit counts down or samples. The
phase error is the line counter, less the frame total from the frame's second half on. In LOCKED the sample bends the
next frame by D lines or loses the lock; in ACQUIRING a sample within the window locks, and one outside it cuts: the
port starts a frame at once. In HOLDOVER a sample is the first of a new acquisition. A reference frame start is offered
to all four units; that it reaches OUT0 to OUT3 in this order is the model's choice (log 38). -/
def Obligations.LockSamples : Prop :=
  ∀ (v : Video) (p : PortId) (st : StreamId),
    let u := v.lock p
    let pt := v.port p
    let e : Int :=
      if 2 * pt.lineCounter < pt.frameTotal then (pt.lineCounter : Int)
      else (pt.lineCounter : Int) - (pt.frameTotal : Int)
    let count := if u.samples < 65535 then u.samples + 1 else u.samples
    let sampled := { u with countdown := u.interval, lastError := e, samples := count }
    (u.state = .unlocked ∨ u.refStream ≠ st ∨ u.firstFrameSeen = false → v.offerTo st p = v) ∧
    (u.state ≠ .unlocked → u.refStream = st → u.firstFrameSeen = true → 2 ≤ u.countdown →
      v.offerTo st p = v.setLock p { u with countdown := u.countdown - 1 }) ∧
    (u.state = .locked → u.refStream = st → u.firstFrameSeen = true → u.countdown ≤ 1 →
      (16 * u.delta < e.natAbs →
        v.offerTo st p =
          ((v.setLock p { sampled with state := .acquiring, countdown := 1, samples := 0 }).raise
            (portEntry p) 2).setPort p { pt with nextTotal := pt.totalLines }) ∧
      (e.natAbs ≤ 16 * u.delta →
        v.offerTo st p =
          (v.setLock p sampled).setPort p
            { pt with
              nextTotal :=
                if (u.window : Int) < e then pt.totalLines + u.delta
                else if e < -(u.window : Int) then pt.totalLines - u.delta
                else pt.totalLines })) ∧
    (u.state = .acquiring → u.refStream = st → u.firstFrameSeen = true → u.countdown ≤ 1 →
      (e.natAbs ≤ u.window →
        v.offerTo st p = (v.setLock p { sampled with state := .locked }).raise (portEntry p) 1) ∧
      (u.window < e.natAbs →
        ((v.offerTo st p).lock p).state = .acquiring ∧
        ((v.offerTo st p).lock p).samples = count ∧
        ((v.offerTo st p).port p).cutFrames = satInc pt.cutFrames ∧
        ((v.offerTo st p).port p).frames = satInc pt.frames ∧ ((v.offerTo st p).port p).lineCounter = 0 ∧
        (count = 8 → ((v.offerTo st p).attn.entry (portEntry p)).pending &&& 4 = 4) ∧
        (let cut :=
          Video.frameStart
            ((v.setLock p sampled).setPort p { pt with cutFrames := satInc pt.cutFrames }) p
        v.offerTo st p = if count = 8 then cut.raise (portEntry p) 4 else cut))) ∧
    (u.state = .holdover → u.refStream = st → u.firstFrameSeen = true → u.countdown ≤ 1 →
      let first := { u with countdown := u.interval, lastError := e, samples := 1, state := LockState.acquiring }
      (e.natAbs ≤ u.window →
        v.offerTo st p = (v.setLock p { first with state := .locked }).raise (portEntry p) 1) ∧
      (u.window < e.natAbs →
        v.offerTo st p =
          Video.frameStart ((v.setLock p first).setPort p { pt with cutFrames := satInc pt.cutFrames }) p)) ∧
    v.offerReference st = (((v.offerTo st 0).offerTo st 1).offerTo st 2).offerTo st 3

/-! ## Memory channel and arbiter (Chapter 8) -/

/-- R5, R98, R99, R115, R143, R144, R145, R146, R151: the requests standing and one grant of a channel that serves. A
write FIFO is URGENT from its urgent mark on and NORMAL while its tail flush or its run stands or its level is at the
normal mark; a port is URGENT while the line of its head read is within its urgent lead of the emission line; HOST asks
while its span has bursts to issue and is not aborted. No request stands while the channel is not READY or drains. An
URGENT request goes before every NORMAL one and both before HOST; within a class the first requester from the pointer on
is granted and the pointer moves past it. The head burst of a FIFO and the next burst of a span are issued; the head
read of a port is resolved against the window's current slot. With no request standing the row changes nothing
(log 3). -/
def Obligations.Grants : Prop :=
  (∀ s : State,
    let serving := s.channel.cal = .ready ∧ s.channel.draining = false
    (¬ serving → (∀ r : Fin 8, s.requestOf r = none) ∧ s.hostRequest = none) ∧
    (serving →
      (∀ (p : PortId) (r : Fin 8), r.val = p.val →
        let g := s.video.input p
        s.requestOf r =
          if g.fifo = [] then none
          else if g.urgentMark ≤ g.fifo.length then some .urgent
          else if g.tailFlush = true ∨ g.normalMark ≤ g.fifo.length ∨ g.run = true then some .normal
          else none) ∧
      (∀ (p : PortId) (r : Fin 8), r.val = p.val + 4 →
        let pt := s.video.port p
        s.requestOf r =
          pt.pendingReads.head?.map fun d =>
            if d.line ≤ pt.emissionLine + pt.urgentLead then ReqClass.urgent else ReqClass.normal) ∧
      s.hostRequest =
        if s.host.state ≠ .idle ∧ s.host.abort = false ∧ s.host.issued < s.host.spanBursts then some .background
        else none)) ∧
  ∀ s : State, s.channel.cal = .ready → s.channel.draining = false → s.channel.inFlight.length < 4 →
    ((∀ r : Fin 8, s.requestOf r = none) → s.hostRequest = none → exec .grant s = .next s) ∧
    (∀ (r : Fin 8) (urgent : Bool),
      let c := if urgent then ReqClass.urgent else ReqClass.normal
      let ptr := if urgent then s.channel.urgentPtr else s.channel.normalPtr
      s.requestOf r = some c → (urgent = false → ∀ k : Fin 8, s.requestOf k ≠ some .urgent) →
      (∀ k : Fin 8, k < r - ptr → s.requestOf (ptr + k) ≠ some c) →
      ∃ t, exec .grant s = .next t ∧ t = { s with video := t.video, channel := t.channel } ∧
        t.channel =
          { s.channel with
            inFlight := t.channel.inFlight
            urgentPtr := if urgent then r + 1 else s.channel.urgentPtr
            normalPtr := if urgent then s.channel.normalPtr else r + 1
            urgentGrants := if urgent then satInc s.channel.urgentGrants else s.channel.urgentGrants
            normalGrants := if urgent then s.channel.normalGrants else satInc s.channel.normalGrants } ∧
        (∀ (p : PortId) (b : BurstEntry) (rest : List BurstEntry), r.val = p.val →
          (s.video.input p).fifo = b :: rest → ∀ x : StreamId, (s.video.slot b.tag.slot).owner = some x →
          t.channel.inFlight =
            s.channel.inFlight ++
              [.ingestWrite p
                ((s.video.slot b.tag.slot).base.toNat * 4096 + b.tag.line * (s.video.stream x).pitch * 64
                  + b.tag.burst * 64)
                b.tag b.data] ∧
          t.video =
            s.video.setInput p
              { s.video.input p with
                fifo := rest, inFlight := (s.video.input p).inFlight + 1
                run :=
                  if rest = [] then false
                  else if (s.video.input p).normalMark ≤ rest.length then true else (s.video.input p).run
                tailFlush := if rest = [] then false else (s.video.input p).tailFlush }) ∧
        (∀ (p : PortId) (d : PendingRead) (rest : List PendingRead), r.val = p.val + 4 →
          (s.video.port p).pendingReads = d :: rest →
          let current := (s.video.window (winOf p d.layer)).current
          (current = none →
            t.channel.inFlight = s.channel.inFlight ∧
            t.video = s.video.setPort p { s.video.port p with pendingReads := rest }) ∧
          (∀ (i : SlotId) (x : StreamId) (k : Fin 4), current = some i → (s.video.slot i).owner = some x →
            (s.video.port p).storeOf d.line = some k →
            i = d.slot ∨
              ((s.video.slot i).state = .ready ∨ (s.video.slot i).state = .detached)
                ∧ d.srcLine < (s.video.slot i).committed →
            t.channel.inFlight =
              s.channel.inFlight ++
                [.portRead p
                  ((s.video.slot i).base.toNat * 4096 + d.srcLine * (s.video.stream x).pitch * 64 + d.burst * 64)
                  { frame := (s.video.port p).frameNumber, line := d.line, store := k, layer := d.layer
                    burst := d.burst }] ∧
            t.video =
              s.video.setPort p
                { s.video.port p with pendingReads := rest, inFlight := (s.video.port p).inFlight + 1 }) ∧
          (∀ (i : SlotId) (k : Fin 4), current = some i → i ≠ d.slot → (s.video.port p).storeOf d.line = some k →
            (s.video.slot i).state ≠ .ready ∧ (s.video.slot i).state ≠ .detached
              ∨ (s.video.slot i).committed ≤ d.srcLine →
            t.channel.inFlight = s.channel.inFlight ∧
            ∃ pt, t.video = s.video.setPort p pt ∧ pt.pendingReads = rest ∧
              pt.stores[k].parts[d.layer].mark = some .border))) ∧
    ((∀ r : Fin 8, s.requestOf r = none) → s.host.state ≠ .idle → s.host.abort = false →
      s.host.issued < s.host.spanBursts → ∀ h : s.host.issued < 64,
      exec .grant s =
        .next
          { s with
            host := { s.host with issued := s.host.issued + 1 }
            channel :=
              { s.channel with
                backgroundGrants := satInc s.channel.backgroundGrants
                inFlight :=
                  s.channel.inFlight ++
                    [if s.host.state = .writing then
                      .hostWrite (s.host.startAddr + s.host.issued * 64) s.host.issued (s.host.buffer[s.host.issued])
                    else .hostRead (s.host.startAddr + s.host.issued * 64) s.host.issued] } })

/-- R100, R101, R102, R116, R138, R142, R147, R150, R151: the head transfer completes, and its completion ends neither a
span nor a drain. A write leaves its 64 bytes in its burst and no other byte. For a burst of a frame that is tracked the count of its
line falls, the commit point passes every line that has ended whole, in order and below the height, with one commit claim
when it moves, and the complete claims are made down the frame list; an orphan only leaves the orphans, and is no burst
of a frame. A read reaches the line store or the buffer it was made for, or is discarded: a host read after ABORT among
them. While a soft reset drains, the completion of a transfer that is not the last is discarded: the write has happened,
and of the records only the requester's count falls (R150; that nothing else moves is the model's reading, log 17). A transfer outside frame memory is a fault of the model (log 23), with nothing in flight the row changes nothing
(log 3), and a transfer acts on memory as it completes (log 7). -/
def Obligations.TransfersComplete : Prop :=
  (∀ (v : Video) (p : PortId) (flying : List Transfer),
    ((v.input p).frames = [] → v.completeFrames p flying = v) ∧
    ∀ (e : FrameEntry) (rest : List FrameEntry), (v.input p).frames = e :: rest →
      let done := e.ended = true ∧ (∀ b ∈ (v.input p).fifo, ¬(b.tag.slot = e.slot ∧ b.tag.seq = e.seq)) ∧
        ∀ t ∈ (flying.filter fun t => t.isWriteOf p).drop (v.input p).orphans, t.isOf p e.slot e.seq = false
      let v' := v.complete e.slot e.seq
      (done → v.completeFrames p flying = (v'.setInput p { v'.input p with frames := rest }).completeFrames p flying) ∧
      (¬ done → v.completeFrames p flying = v)) ∧
  ∀ s : State,
    (s.channel.inFlight = [] → exec .transferComplete s = .next s) ∧
    ∀ (x : Transfer) (rest : List Transfer), s.channel.inFlight = x :: rest →
      (¬(x.addr % 64 = 0 ∧ x.addr + 64 ≤ 268435456) →
        exec .transferComplete s = .fault (.outsideFrameMemory x.addr)) ∧
      -- R150: during a drain, another transfer still in flight
      (x.addr % 64 = 0 → x.addr + 64 ≤ 268435456 → Memory.wf s.mem = true → s.channel.draining = true →
        s.host.state = .idle → rest ≠ [] →
        ∃ t, exec .transferComplete s = .next t ∧
          t = { s with channel := { s.channel with inFlight := rest }, mem := t.mem, video := t.video } ∧
          (∀ a : Nat, t.byteAt a = (x.writes a).getD (s.byteAt a)) ∧
          t.video =
            match x with
            | .portRead p _ _ =>
              s.video.setPort p { s.video.port p with inFlight := (s.video.port p).inFlight - 1 }
            | .ingestWrite p _ _ _ =>
              let g := s.video.input p
              s.video.setInput p
                (if 0 < g.orphans then { g with orphans := g.orphans - 1 } else { g with inFlight := g.inFlight - 1 })
            | .hostWrite .. | .hostRead .. => s.video) ∧
      let completed := match x with
        | .hostWrite .. | .hostRead .. => s.host.completed + 1
        | .ingestWrite .. | .portRead .. => s.host.completed
      (x.addr % 64 = 0 → x.addr + 64 ≤ 268435456 → Memory.wf s.mem = true → s.channel.draining = false →
        s.host.state = .idle ∨ completed ≠ s.host.issued ∨ s.host.issued ≠ s.host.spanBursts ∧ s.host.abort = false →
        ∃ t, exec .transferComplete s = .next t ∧ t.channel = { s.channel with inFlight := rest } ∧
          t.link = s.link ∧ (∀ a : Nat, t.byteAt a = (x.writes a).getD (s.byteAt a)) ∧
          (∀ (p : PortId) (a : Nat) (tag : ReadTag), x = .portRead p a tag →
            let pt := s.video.port p
            t.host = s.host ∧
            ∃ stores, t.video =
                s.video.setPort p { pt with inFlight := pt.inFlight - 1, stores := stores } ∧
              (pt.on = true → tag.frame = pt.frameNumber → pt.stores[tag.store].line = some tag.line →
                pt.lineCounter < pt.topBlank + tag.line →
                stores[tag.store].parts[tag.layer].bursts =
                  pt.stores[tag.store].parts[tag.layer].bursts ++
                    [(tag.burst, Vector.ofFn fun k : Fin 64 => s.byteAt (a + k.val))] ∧
                ∀ k : Fin 4, k ≠ tag.store → stores[k] = pt.stores[k]) ∧
              (pt.on = false ∨ tag.frame ≠ pt.frameNumber ∨ pt.stores[tag.store].line ≠ some tag.line
                ∨ pt.topBlank + tag.line ≤ pt.lineCounter → stores = pt.stores)) ∧
          (∀ (p : PortId) (a : Nat) (tag : BurstTag) (d : Burst), x = .ingestWrite p a tag d →
            let g := s.video.input p
            t.host = s.host ∧
            (0 < g.orphans → t.video = s.video.setInput p { g with orphans := g.orphans - 1 }) ∧
            (g.orphans = 0 → (∀ e ∈ g.frames, ¬(e.slot = tag.slot ∧ e.seq = tag.seq)) →
              t.video = s.video.setInput p { g with inFlight := g.inFlight - 1 }) ∧
            ∀ (before after : List FrameEntry) (e : FrameEntry) (pre post : List LineRec) (n point : Nat)
                (lineEnded : Bool) (st : StreamId),
              g.orphans = 0 → g.stream = some st → g.frames = before ++ e :: after →
              (∀ f ∈ before ++ after, ¬(f.slot = tag.slot ∧ f.seq = tag.seq)) → e.slot = tag.slot → e.seq = tag.seq →
              e.lines = pre ++ { line := tag.line, ended := lineEnded, outstanding := n + 1 } :: post →
              (e.lines.map LineRec.line).Nodup →
              let lines := pre ++ { line := tag.line, ended := lineEnded, outstanding := n } :: post
              let whole := fun k : Nat =>
                k < (s.video.stream st).height ∧ { line := k, ended := true, outstanding := 0 } ∈ lines
              e.commitPoint ≤ point → (∀ k : Nat, e.commitPoint ≤ k → k < point → whole k) → ¬ whole point →
              let v :=
                s.video.setInput p
                  { g with
                    inFlight := g.inFlight - 1
                    frames :=
                      before ++
                        { e with
                          commitPoint := point
                          lines := lines.filter fun r => decide (r.line < e.commitPoint ∨ point ≤ r.line) }
                          :: after }
              let v := if e.commitPoint < point then v.commit tag.slot tag.seq point else v
              t.video = Video.resumeFrom s.video (v.completeFrames p rest)) ∧
          (∀ (a k : Nat) (d : Burst), x = .hostWrite a k d →
            t.video = s.video ∧ t.host = { s.host with completed := s.host.completed + 1 }) ∧
          (∀ (a k : Nat) (h : k < 64), x = .hostRead a k → s.host.abort = false →
            t.video = s.video ∧
            t.host =
              { s.host with
                completed := s.host.completed + 1
                buffer := s.host.buffer.set k (Vector.ofFn fun m : Fin 64 => s.byteAt (a + m.val)) }) ∧
          (∀ a k : Nat, x = .hostRead a k → s.host.abort = true →
            t.video = s.video ∧ t.host = { s.host with completed := s.host.completed + 1 }))

/-- R138, R139: frame memory keeps its canonical form, at most four transfers are in flight, and every step keeps it
so. -/
def Obligations.MemoryKept : Prop :=
  ∀ s t : State, Memory.wf s.mem = true → s.channel.inFlight.length ≤ 4 → step s = .next t →
    Memory.wf t.mem = true ∧ t.channel.inFlight.length ≤ 4

/-- R138, R142, R147: only a completion writes frame memory, and only bytes of the transfer that completes; power-on
reset is the one exception, for the writes it abandons (log 8). A happening at an ingest port reaches no other ingest
port, no channel, no link and no memory. That memory changes at the completion is the model's reading (log 7), as is
that RESET_POINT and the END rows of the spans are such completions (log 5), and that a drain ignores the happenings of
the ports (log 17). No command, power-on reset included, changes the model's own queue of happenings to come, which is
the model's choice (log 1) and its reading (log 25); the link's command queue is another. Only power-on reset moves the
model's counter of free values (log 24). -/
def Obligations.OnlyCompletionsWriteMemory : Prop :=
  (∀ (c : Instr) (s t : State), exec c s = .next t →
    t.pending = s.pending ∧
    (c ≠ .powerOnReset → Memory.wf s.mem = true → t.freeCount = s.freeCount ∧
      ∀ a : Nat, t.byteAt a ≠ s.byteAt a →
        (c = .transferComplete ∨ c = .resetPoint ∨ c = .spanWriteEnd ∨ c = .spanReadEnd) ∧
          ∃ x, s.channel.inFlight.head? = some x ∧ x.writes a = some (t.byteAt a))) ∧
  ∀ (s : State) (p : PortId) (c : Instr),
    (c = .inputFrameStart p ∨ c = .inputFrameEnd p ∨ c = .inputLineStart p ∨ c = .inputLineEnd p
      ∨ (∃ data, c = .pixel p data) ∨ c = .lossTimeout p) →
    ∃ t, exec c s = .next t ∧ t = { s with video := t.video } ∧
      (∀ q : PortId, q ≠ p → t.video.input q = s.video.input q) ∧ (s.channel.draining = true → t = s)

/-! ## Host frames (Chapter 9) -/

/-- R9, R10, R18, R42, R153, R156, R157: FRAME_BEGIN takes a fill target or answers NO_SLOT with the overflow reported;
FRAME_PUBLISH commits every line and publishes the frame, which an ORDERED stream owes to its windows in use; the slot
of the frame that was the newest departs when it is leaving and nothing else holds it. FRAME_ABANDON gives it up, and
its slot departs when it is leaving. Both end a stop. -/
def Obligations.HostFrames : Prop :=
  ∀ (s : State) (tag : Byte) (st : StreamId), LinkFree s → (s.video.stream st).source = some .host →
    let x := s.video.stream st
    (s.channel.cal = .ready → x.state = .running → x.fillTarget = none →
      (∀ (v : Video) (i : SlotId) (q : Seq), s.video.take st = (v, .taken i q) →
        exec (.frameBegin tag (natByte st.val)) s =
          .next (s.carriedOut tag 0x60 (natByte i.val :: bytes32 q) v)) ∧
      (s.video.take st = (s.video, .noTarget) →
        exec (.frameBegin tag (natByte st.val)) s =
          .next
            { s with
              video := (s.video.setStream st { x with overflowed := satInc x.overflowed }).raise (streamEntry st) 4
              link := s.link.answered tag 0x60 .noSlot [] })) ∧
    ∀ i : SlotId, x.state = .running ∨ x.state = .stopping → x.fillTarget = some i →
      (s.video.slot i).owner = some st → (s.video.slot i).state = .filling → (s.video.slot i).readers = 0 →
      let state : StreamState := if x.state = .stopping then .opened else x.state
      let unwaited := ∀ (p : PortId) (wt : Wait), (s.video.port p).wait = some wt → wt.slot ≠ i
      let noneDeparts :=
        ∀ j : SlotId, s.video.newestReady st = some j → (s.video.slot j).leaving = false ∨ (s.video.slot j).held
      ((s.video.slot i).damage = 0 → x.delivery = .newest → unwaited → noneDeparts →
        exec (.framePublish tag (natByte st.val)) s =
          .next
            (s.carriedOut tag 0x62 (natByte i.val :: bytes32 (s.video.slot i).seq)
              ((s.video.setSlot i
                  { s.video.slot i with
                    state := .ready, committed := max (s.video.slot i).committed x.height, owed := 0 }).setStream st
                { x with
                  state := state, newest := (s.video.slot i).seq, published := satInc x.published
                  fillTarget := none }))) ∧
      ((s.video.slot i).damage = 0 → unwaited →
        ∃ owed : WinSet,
          let published :=
            (s.video.setSlot i
                { s.video.slot i with
                  state := .ready, committed := max (s.video.slot i).committed x.height, owed := owed }).setStream st
              { x with
                state := state, newest := (s.video.slot i).seq, published := satInc x.published, fillTarget := none }
          let answered := s.carriedOut tag 0x62 (natByte i.val :: bytes32 (s.video.slot i).seq)
          (noneDeparts → exec (.framePublish tag (natByte st.val)) s = .next (answered published)) ∧
          (∀ j : SlotId, s.video.newestReady st = some j → (s.video.slot j).leaving = true → ¬ (s.video.slot j).held →
            (s.video.slot j).owner = some st → (s.video.slot j).seq ≠ (s.video.slot i).seq →
            exec (.framePublish tag (natByte st.val)) s =
              .next
                (answered
                  ((published.setSlot j
                      { base := (s.video.slot j).base, owner := none, state := .spare, leaving := false, seq := 0,
                        committed := 0, damage := 0, readers := 0, owed := 0, pinned := false, seen := false }).setStream
                    st
                    { published.stream st with
                      pool := x.pool.filter (· != j)
                      unseen := if (s.video.slot j).seen then x.unseen else satInc x.unseen }))) ∧
          ∀ w : WindowId, winHas owed w = true ↔
            x.delivery = .ordered ∧ (s.video.window w).stream = some st ∧ (s.video.port (portOf w)).on = true ∧
              ((s.video.window w).state = .idle ∨ (s.video.window w).state = .showing ∨
                (s.video.window w).state = .chasing)) ∧
      ((s.video.slot i).leaving = true →
        exec (.frameAbandon tag (natByte st.val)) s =
          .next
            (s.carriedOut tag 0x63 (natByte i.val :: bytes32 (s.video.slot i).seq)
              ((s.video.setSlot i
                  { base := (s.video.slot i).base, owner := none, state := .spare, leaving := false, seq := 0,
                    committed := 0, damage := 0, readers := 0, owed := 0, pinned := false, seen := false }).setStream st
                { x with
                  state := state, abandoned := satInc x.abandoned, fillTarget := none
                  pool := x.pool.filter (· != i) }))) ∧
      ((s.video.slot i).leaving = false →
        exec (.frameAbandon tag (natByte st.val)) s =
          .next
            (s.carriedOut tag 0x63 (natByte i.val :: bytes32 (s.video.slot i).seq)
              ((s.video.setSlot i
                  { s.video.slot i with
                    state := .empty, seq := 0, committed := 0, damage := 0, readers := 0, seen := false }).setStream st
                { x with state := state, abandoned := satInc x.abandoned, fillTarget := none })))

/-- R5, R151, R154, R155, R158, R159, R173, R177: SPAN_WRITE and SPAN_READ begin a span at the line's address and
execute; each ends with the completion of its last burst, and is answered with the bytes written, or with the bytes
read. An aborted span ends with the completion of its last issued burst: it is answered ABORTED with the number of bytes
written, or with no data, and the burst read is discarded. The commands that wait are taken in the same happening as far
as they may be. That the END rows are that completion (log 5), that the last burst reaches frame memory or is read from
it in that step (log 7), and that the address and length stay in the unit's record (log 27) is the model's reading. -/
def Obligations.Spans : Prop :=
  (∀ (s : State) (tag : Byte) (st : StreamId) (i : SlotId) (line offset length : BitVec 16), LinkFree s →
    s.channel.cal = .ready → (s.video.slot i).owner = some st → offset.toNat % 64 = 0 → length.toNat % 64 = 0 →
    64 ≤ length.toNat → length.toNat ≤ 4096 → line.toNat < (s.video.stream st).height →
    offset.toNat + length.toNat ≤ (s.video.stream st).pitch * 64 →
    let addr :=
      (s.video.slot i).base.toNat * 4096 + line.toNat * (s.video.stream st).pitch * 64 + offset.toNat
    (∀ data : List Byte, (s.video.stream st).source = some .host →
      (s.video.stream st).state = .running ∨ (s.video.stream st).state = .stopping →
      (s.video.stream st).fillTarget = some i → data.length = length.toNat →
      ∃ t, exec (.spanWrite tag (natByte st.val) line offset length data) s = .next t ∧
        t =
          { s with
            host :=
              { s.host with
                state := .writing, slot := some i, startAddr := addr, spanBursts := length.toNat / 64, issued := 0
                completed := 0, buffer := t.host.buffer }
            link :=
              { s.link with
                executing :=
                  some
                    { tag := tag, code := 0x61, purged := false
                      payload :=
                        [natByte st.val] ++ bytes16 line ++ bytes16 offset ++ bytes16 length ++ data } } } ∧
        ∀ n < length.toNat, (t.host.buffer.toList.flatMap Vector.toList)[n]? = data[n]?) ∧
    ((s.video.slot i).pinned = true → (s.video.slot i).state = .ready ∨ (s.video.slot i).state = .detached →
      exec (.spanRead tag (natByte i.val) line offset length) s =
        .next
          { s with
            host :=
              { s.host with
                state := .reading, slot := some i, startAddr := addr, spanBursts := length.toNat / 64, issued := 0
                completed := 0 }
            link :=
              { s.link with
                executing :=
                  some
                    { tag := tag, code := 0x64, purged := false
                      payload :=
                        [natByte i.val] ++ bytes16 line ++ bytes16 offset ++ bytes16 length } } })) ∧
  ∀ (s : State) (e : CmdEntry) (a k : Nat) (h : k < 64) (rest : List Transfer),
    Memory.wf s.mem = true → s.channel.draining = false → s.link.executing = some e →
    (∀ x ∈ s.link.commands, x.payload.length ≤ 4104) → a % 64 = 0 → a + 64 ≤ 268435456 →
    s.host.issued = s.host.spanBursts ∨ s.host.abort = true → s.host.completed + 1 = s.host.issued →
    let idle := { s.host with state := HostState.idle, slot := none, issued := 0, completed := 0, abort := false }
    let status : Status := if s.host.abort = true then .aborted else .ok
    let link := { s.link with executing := none, commands := [] }
    (∀ d : Burst, s.host.state = .writing → s.channel.inFlight = .hostWrite a k d :: rest →
      ∃ t : State, exec .spanWriteEnd s = .next (t.takeWaiting s.link.commands) ∧
        t =
          { s with
            host := idle, mem := t.mem, channel := { s.channel with inFlight := rest }
            link := link.answered e.tag e.code status (natBytes16 (s.host.issued * 64)) } ∧
        ∀ b : Nat, t.byteAt b = if a ≤ b ∧ b < a + 64 then d.toList.getD (b - a) 0 else s.byteAt b) ∧
    (s.host.state = .reading → s.channel.inFlight = .hostRead a k :: rest → s.host.spanBursts ≤ 64 →
      let buffer :=
        if s.host.abort = true then s.host.buffer
        else s.host.buffer.set k (Vector.ofFn fun m : Fin 64 => s.byteAt (a + m.val))
      exec .spanReadEnd s =
        .next
          (State.takeWaiting
            { s with
              host := { idle with buffer := buffer }, channel := { s.channel with inFlight := rest }
              link :=
                link.answered e.tag e.code status
                  (if s.host.abort = true then []
                  else (buffer.toList.flatMap Vector.toList).take (64 * s.host.spanBursts)) }
            s.link.commands))

/-! ## The machine right after reset -/

/-- Right after power-on reset every invariant above holds. -/
def Obligations.InvariantsHoldAtReset : Prop :=
  State.reset.link.Ok ∧ State.reset.video.attn.Ok ∧ State.reset.video.PoolsOk ∧ State.reset.video.CustodyOk ∧
    State.reset.video.RegionsOk ∧
    State.reset.video.ReadersOk ∧ State.reset.video.GeometryOk ∧
    (∀ p : PortId, (State.reset.video.input p).FifoOk) ∧ State.reset.video.PortsOk ∧
    Memory.wf State.reset.mem = true ∧ State.reset.channel.inFlight.length ≤ 4
end

