-- ==== Sys2Proof/Laws/Bytes.lean ====
section
/-! SUPPORT. Bytes of the link: numbers put together from their bytes (R183), the sum of a frame's bytes (R172, R174),
and the record numbers that a byte names. -/

namespace Sys2Proof.Machine

/-- A two-byte value is put together from its own bytes. -/
@[simp] theorem le16_bytes (x : BitVec 16) : le16 (x.extractLsb' 0 8) (x.extractLsb' 8 8) = x := by
  apply BitVec.eq_of_getLsbD_eq
  intro i hi
  simp only [le16, BitVec.getLsbD_append, BitVec.getLsbD_extractLsb']
  split
  · simp [*]
  · simp [show i - 8 < 8 by omega, show 8 + (i - 8) = i by omega]

/-- A four-byte value is put together from its own bytes. -/
@[simp] theorem le32_bytes (x : BitVec 32) :
    le32 (x.extractLsb' 0 8) (x.extractLsb' 8 8) (x.extractLsb' 16 8) (x.extractLsb' 24 8) = x := by
  apply BitVec.eq_of_getLsbD_eq
  intro i hi
  simp only [le32, BitVec.getLsbD_append, BitVec.getLsbD_extractLsb']
  rcases Nat.lt_or_ge i 8 with h | h
  · simp [h]
  rcases Nat.lt_or_ge i 16 with h2 | h2
  · simp [show ¬ i < 8 by omega, show i - 8 < 8 by omega, show 8 + (i - 8) = i by omega]
  rcases Nat.lt_or_ge i 24 with h3 | h3
  · simp [show ¬ i < 8 by omega, show ¬ i - 8 < 8 by omega, show i - 8 - 8 < 8 by omega,
      show 16 + (i - 8 - 8) = i by omega]
  · simp [show ¬ i < 8 by omega, show ¬ i - 8 < 8 by omega, show ¬ i - 8 - 8 < 8 by omega,
      show i - 8 - 8 - 8 < 8 by omega, show 24 + (i - 8 - 8 - 8) = i by omega]

theorem le16_toNat (a b : Byte) : (le16 a b).toNat = a.toNat + 256 * b.toNat := by
  have h := a.isLt
  have h2 : (b.toNat <<< 8) ||| a.toNat = b.toNat * 256 + a.toNat := by
    rw [← Nat.shiftLeft_add_eq_or_of_lt h, Nat.shiftLeft_eq]
  simp only [le16, BitVec.toNat_append, h2]; omega

/-- The bytes of a number below 65536 stand for it again. -/
theorem le16_natBytes (n : Nat) (h : n < 65536) :
    (le16 ((BitVec.ofNat 16 n).extractLsb' 0 8) ((BitVec.ofNat 16 n).extractLsb' 8 8)).toNat = n := by
  rw [le16_bytes, BitVec.toNat_ofNat, Nat.mod_eq_of_lt h]

/-! ## The sum of bytes -/

theorem byteSum_from : ∀ (xs : List Byte) (a : Byte),
    xs.foldl (· + ·) a = a + BitVec.ofNat 8 (xs.map BitVec.toNat).sum
  | [], a => by simp
  | x :: xs, a => by
    rw [List.foldl_cons, byteSum_from xs]
    simp only [List.map_cons, List.sum_cons, BitVec.ofNat_add, BitVec.ofNat_toNat, BitVec.setWidth_eq]
    rw [BitVec.add_assoc]

theorem byteSum_eq (xs : List Byte) : byteSum xs = BitVec.ofNat 8 (xs.map BitVec.toNat).sum := by
  rw [byteSum, byteSum_from]; simp

/-- The sum of bytes is 0 exactly when their numbers sum to 0 modulo 256. -/
theorem byteSum_eq_zero (xs : List Byte) : byteSum xs = 0 ↔ (xs.map BitVec.toNat).sum % 256 = 0 := by
  rw [byteSum_eq, ← BitVec.toNat_inj]; simp

theorem byteSum_append (xs ys : List Byte) : byteSum (xs ++ ys) = byteSum xs + byteSum ys := by
  simp [byteSum_eq, BitVec.ofNat_add]

/-- A checksum byte makes the bytes of a frame sum to 0. -/
theorem byteSum_closed (xs : List Byte) : byteSum (xs ++ [-(byteSum xs)]) = 0 := by
  rw [byteSum_append, show ∀ x : Byte, byteSum [x] = x from fun x => BitVec.zero_add x]
  exact BitVec.add_right_neg _

/-! ## Record numbers -/

theorem recordNumber_natByte {n : Nat} (i : Fin n) (h : n ≤ 256) : recordNumber n (natByte i.val) = some i := by
  have h2 : (natByte i.val).toNat = i.val := by
    simp only [natByte, BitVec.toNat_ofNat]; exact Nat.mod_eq_of_lt (by omega)
  unfold recordNumber
  rw [dif_pos (by omega)]
  simp [h2]

@[simp] theorem slotOf_natByte (i : SlotId) : slotOf (natByte i.val) = some i := recordNumber_natByte i (by decide)
@[simp] theorem streamOf_natByte (i : StreamId) : streamOf (natByte i.val) = some i :=
  recordNumber_natByte i (by decide)
@[simp] theorem windowOf_natByte (i : WindowId) : windowOf (natByte i.val) = some i :=
  recordNumber_natByte i (by decide)
@[simp] theorem portNumber_natByte (i : PortId) : portNumber (natByte i.val) = some i :=
  recordNumber_natByte i (by decide)
@[simp] theorem entryOf_natByte (i : EntryId) : entryOf (natByte i.val) = some i :=
  recordNumber_natByte i (by decide)

end Sys2Proof.Machine
end

