-- ==== Sys2Proof/Laws/State.lean ====
section
/-! SUPPORT. One lemma per field per update of the records of State, so that no proof unfolds a record update. -/

namespace Sys2Proof.Machine

/-! ## One record of a table set or changed -/

@[simp] theorem Video.setSlot_slot_self (v : Video) (i : SlotId) (x : Slot) : (v.setSlot i x).slot i = x := by
  simp [Video.setSlot, Video.slot]

theorem Video.setSlot_slot (v : Video) (i j : SlotId) (x : Slot) :
    (v.setSlot i x).slot j = if i = j then x else v.slot j := by
  simp only [Video.setSlot, Video.slot, Fin.getElem_fin, Vector.getElem_set, Fin.ext_iff]

@[simp] theorem Video.setSlot_slot_ne (v : Video) {i j : SlotId} (h : i ≠ j) (x : Slot) : (v.setSlot i x).slot j = v.slot j := by
  simp [Video.setSlot_slot, h]

@[simp] theorem Video.modSlot_slot_self (v : Video) (i : SlotId) (f : Slot → Slot) : (v.modSlot i f).slot i = f (v.slot i) := by
  simp [Video.modSlot]

theorem Video.modSlot_slot (v : Video) (i j : SlotId) (f : Slot → Slot) :
    (v.modSlot i f).slot j = if i = j then f (v.slot i) else v.slot j := by
  simp [Video.modSlot, Video.setSlot_slot]

@[simp] theorem Video.modSlot_slot_ne (v : Video) {i j : SlotId} (h : i ≠ j) (f : Slot → Slot) :
    (v.modSlot i f).slot j = v.slot j := by
  simp [Video.modSlot, h]

@[simp] theorem Video.setSlot_streams (v : Video) (i : SlotId) (x : Slot) : (v.setSlot i x).streams = v.streams := rfl
@[simp] theorem Video.modSlot_streams (v : Video) (i : SlotId) (f : Slot → Slot) : (v.modSlot i f).streams = v.streams := rfl
@[simp] theorem Video.setSlot_windows (v : Video) (i : SlotId) (x : Slot) : (v.setSlot i x).windows = v.windows := rfl
@[simp] theorem Video.modSlot_windows (v : Video) (i : SlotId) (f : Slot → Slot) : (v.modSlot i f).windows = v.windows := rfl
@[simp] theorem Video.setSlot_ingest (v : Video) (i : SlotId) (x : Slot) : (v.setSlot i x).ingest = v.ingest := rfl
@[simp] theorem Video.modSlot_ingest (v : Video) (i : SlotId) (f : Slot → Slot) : (v.modSlot i f).ingest = v.ingest := rfl
@[simp] theorem Video.setSlot_ports (v : Video) (i : SlotId) (x : Slot) : (v.setSlot i x).ports = v.ports := rfl
@[simp] theorem Video.modSlot_ports (v : Video) (i : SlotId) (f : Slot → Slot) : (v.modSlot i f).ports = v.ports := rfl
@[simp] theorem Video.setSlot_locks (v : Video) (i : SlotId) (x : Slot) : (v.setSlot i x).locks = v.locks := rfl
@[simp] theorem Video.modSlot_locks (v : Video) (i : SlotId) (f : Slot → Slot) : (v.modSlot i f).locks = v.locks := rfl
@[simp] theorem Video.setSlot_attn (v : Video) (i : SlotId) (x : Slot) : (v.setSlot i x).attn = v.attn := rfl
@[simp] theorem Video.modSlot_attn (v : Video) (i : SlotId) (f : Slot → Slot) : (v.modSlot i f).attn = v.attn := rfl
@[simp] theorem Video.setSlot_stream (v : Video) (i : SlotId) (x : Slot) (j : StreamId) : (v.setSlot i x).stream j = v.stream j := rfl
@[simp] theorem Video.modSlot_stream (v : Video) (i : SlotId) (f : Slot → Slot) (j : StreamId) : (v.modSlot i f).stream j = v.stream j := rfl
@[simp] theorem Video.setSlot_window (v : Video) (i : SlotId) (x : Slot) (j : WindowId) : (v.setSlot i x).window j = v.window j := rfl
@[simp] theorem Video.modSlot_window (v : Video) (i : SlotId) (f : Slot → Slot) (j : WindowId) : (v.modSlot i f).window j = v.window j := rfl
@[simp] theorem Video.setSlot_input (v : Video) (i : SlotId) (x : Slot) (j : PortId) : (v.setSlot i x).input j = v.input j := rfl
@[simp] theorem Video.modSlot_input (v : Video) (i : SlotId) (f : Slot → Slot) (j : PortId) : (v.modSlot i f).input j = v.input j := rfl
@[simp] theorem Video.setSlot_port (v : Video) (i : SlotId) (x : Slot) (j : PortId) : (v.setSlot i x).port j = v.port j := rfl
@[simp] theorem Video.modSlot_port (v : Video) (i : SlotId) (f : Slot → Slot) (j : PortId) : (v.modSlot i f).port j = v.port j := rfl
@[simp] theorem Video.setSlot_lock (v : Video) (i : SlotId) (x : Slot) (j : PortId) : (v.setSlot i x).lock j = v.lock j := rfl
@[simp] theorem Video.modSlot_lock (v : Video) (i : SlotId) (f : Slot → Slot) (j : PortId) : (v.modSlot i f).lock j = v.lock j := rfl

@[simp] theorem Video.setStream_stream_self (v : Video) (i : StreamId) (x : Stream) : (v.setStream i x).stream i = x := by
  simp [Video.setStream, Video.stream]

theorem Video.setStream_stream (v : Video) (i j : StreamId) (x : Stream) :
    (v.setStream i x).stream j = if i = j then x else v.stream j := by
  simp only [Video.setStream, Video.stream, Fin.getElem_fin, Vector.getElem_set, Fin.ext_iff]

@[simp] theorem Video.setStream_stream_ne (v : Video) {i j : StreamId} (h : i ≠ j) (x : Stream) : (v.setStream i x).stream j = v.stream j := by
  simp [Video.setStream_stream, h]

@[simp] theorem Video.modStream_stream_self (v : Video) (i : StreamId) (f : Stream → Stream) : (v.modStream i f).stream i = f (v.stream i) := by
  simp [Video.modStream]

theorem Video.modStream_stream (v : Video) (i j : StreamId) (f : Stream → Stream) :
    (v.modStream i f).stream j = if i = j then f (v.stream i) else v.stream j := by
  simp [Video.modStream, Video.setStream_stream]

@[simp] theorem Video.modStream_stream_ne (v : Video) {i j : StreamId} (h : i ≠ j) (f : Stream → Stream) :
    (v.modStream i f).stream j = v.stream j := by
  simp [Video.modStream, h]

@[simp] theorem Video.setStream_slots (v : Video) (i : StreamId) (x : Stream) : (v.setStream i x).slots = v.slots := rfl
@[simp] theorem Video.modStream_slots (v : Video) (i : StreamId) (f : Stream → Stream) : (v.modStream i f).slots = v.slots := rfl
@[simp] theorem Video.setStream_windows (v : Video) (i : StreamId) (x : Stream) : (v.setStream i x).windows = v.windows := rfl
@[simp] theorem Video.modStream_windows (v : Video) (i : StreamId) (f : Stream → Stream) : (v.modStream i f).windows = v.windows := rfl
@[simp] theorem Video.setStream_ingest (v : Video) (i : StreamId) (x : Stream) : (v.setStream i x).ingest = v.ingest := rfl
@[simp] theorem Video.modStream_ingest (v : Video) (i : StreamId) (f : Stream → Stream) : (v.modStream i f).ingest = v.ingest := rfl
@[simp] theorem Video.setStream_ports (v : Video) (i : StreamId) (x : Stream) : (v.setStream i x).ports = v.ports := rfl
@[simp] theorem Video.modStream_ports (v : Video) (i : StreamId) (f : Stream → Stream) : (v.modStream i f).ports = v.ports := rfl
@[simp] theorem Video.setStream_locks (v : Video) (i : StreamId) (x : Stream) : (v.setStream i x).locks = v.locks := rfl
@[simp] theorem Video.modStream_locks (v : Video) (i : StreamId) (f : Stream → Stream) : (v.modStream i f).locks = v.locks := rfl
@[simp] theorem Video.setStream_attn (v : Video) (i : StreamId) (x : Stream) : (v.setStream i x).attn = v.attn := rfl
@[simp] theorem Video.modStream_attn (v : Video) (i : StreamId) (f : Stream → Stream) : (v.modStream i f).attn = v.attn := rfl
@[simp] theorem Video.setStream_slot (v : Video) (i : StreamId) (x : Stream) (j : SlotId) : (v.setStream i x).slot j = v.slot j := rfl
@[simp] theorem Video.modStream_slot (v : Video) (i : StreamId) (f : Stream → Stream) (j : SlotId) : (v.modStream i f).slot j = v.slot j := rfl
@[simp] theorem Video.setStream_window (v : Video) (i : StreamId) (x : Stream) (j : WindowId) : (v.setStream i x).window j = v.window j := rfl
@[simp] theorem Video.modStream_window (v : Video) (i : StreamId) (f : Stream → Stream) (j : WindowId) : (v.modStream i f).window j = v.window j := rfl
@[simp] theorem Video.setStream_input (v : Video) (i : StreamId) (x : Stream) (j : PortId) : (v.setStream i x).input j = v.input j := rfl
@[simp] theorem Video.modStream_input (v : Video) (i : StreamId) (f : Stream → Stream) (j : PortId) : (v.modStream i f).input j = v.input j := rfl
@[simp] theorem Video.setStream_port (v : Video) (i : StreamId) (x : Stream) (j : PortId) : (v.setStream i x).port j = v.port j := rfl
@[simp] theorem Video.modStream_port (v : Video) (i : StreamId) (f : Stream → Stream) (j : PortId) : (v.modStream i f).port j = v.port j := rfl
@[simp] theorem Video.setStream_lock (v : Video) (i : StreamId) (x : Stream) (j : PortId) : (v.setStream i x).lock j = v.lock j := rfl
@[simp] theorem Video.modStream_lock (v : Video) (i : StreamId) (f : Stream → Stream) (j : PortId) : (v.modStream i f).lock j = v.lock j := rfl

@[simp] theorem Video.setWindow_window_self (v : Video) (i : WindowId) (x : Window) : (v.setWindow i x).window i = x := by
  simp [Video.setWindow, Video.window]

theorem Video.setWindow_window (v : Video) (i j : WindowId) (x : Window) :
    (v.setWindow i x).window j = if i = j then x else v.window j := by
  simp only [Video.setWindow, Video.window, Fin.getElem_fin, Vector.getElem_set, Fin.ext_iff]

@[simp] theorem Video.setWindow_window_ne (v : Video) {i j : WindowId} (h : i ≠ j) (x : Window) : (v.setWindow i x).window j = v.window j := by
  simp [Video.setWindow_window, h]

@[simp] theorem Video.modWindow_window_self (v : Video) (i : WindowId) (f : Window → Window) : (v.modWindow i f).window i = f (v.window i) := by
  simp [Video.modWindow]

theorem Video.modWindow_window (v : Video) (i j : WindowId) (f : Window → Window) :
    (v.modWindow i f).window j = if i = j then f (v.window i) else v.window j := by
  simp [Video.modWindow, Video.setWindow_window]

@[simp] theorem Video.modWindow_window_ne (v : Video) {i j : WindowId} (h : i ≠ j) (f : Window → Window) :
    (v.modWindow i f).window j = v.window j := by
  simp [Video.modWindow, h]

@[simp] theorem Video.setWindow_slots (v : Video) (i : WindowId) (x : Window) : (v.setWindow i x).slots = v.slots := rfl
@[simp] theorem Video.modWindow_slots (v : Video) (i : WindowId) (f : Window → Window) : (v.modWindow i f).slots = v.slots := rfl
@[simp] theorem Video.setWindow_streams (v : Video) (i : WindowId) (x : Window) : (v.setWindow i x).streams = v.streams := rfl
@[simp] theorem Video.modWindow_streams (v : Video) (i : WindowId) (f : Window → Window) : (v.modWindow i f).streams = v.streams := rfl
@[simp] theorem Video.setWindow_ingest (v : Video) (i : WindowId) (x : Window) : (v.setWindow i x).ingest = v.ingest := rfl
@[simp] theorem Video.modWindow_ingest (v : Video) (i : WindowId) (f : Window → Window) : (v.modWindow i f).ingest = v.ingest := rfl
@[simp] theorem Video.setWindow_ports (v : Video) (i : WindowId) (x : Window) : (v.setWindow i x).ports = v.ports := rfl
@[simp] theorem Video.modWindow_ports (v : Video) (i : WindowId) (f : Window → Window) : (v.modWindow i f).ports = v.ports := rfl
@[simp] theorem Video.setWindow_locks (v : Video) (i : WindowId) (x : Window) : (v.setWindow i x).locks = v.locks := rfl
@[simp] theorem Video.modWindow_locks (v : Video) (i : WindowId) (f : Window → Window) : (v.modWindow i f).locks = v.locks := rfl
@[simp] theorem Video.setWindow_attn (v : Video) (i : WindowId) (x : Window) : (v.setWindow i x).attn = v.attn := rfl
@[simp] theorem Video.modWindow_attn (v : Video) (i : WindowId) (f : Window → Window) : (v.modWindow i f).attn = v.attn := rfl
@[simp] theorem Video.setWindow_slot (v : Video) (i : WindowId) (x : Window) (j : SlotId) : (v.setWindow i x).slot j = v.slot j := rfl
@[simp] theorem Video.modWindow_slot (v : Video) (i : WindowId) (f : Window → Window) (j : SlotId) : (v.modWindow i f).slot j = v.slot j := rfl
@[simp] theorem Video.setWindow_stream (v : Video) (i : WindowId) (x : Window) (j : StreamId) : (v.setWindow i x).stream j = v.stream j := rfl
@[simp] theorem Video.modWindow_stream (v : Video) (i : WindowId) (f : Window → Window) (j : StreamId) : (v.modWindow i f).stream j = v.stream j := rfl
@[simp] theorem Video.setWindow_input (v : Video) (i : WindowId) (x : Window) (j : PortId) : (v.setWindow i x).input j = v.input j := rfl
@[simp] theorem Video.modWindow_input (v : Video) (i : WindowId) (f : Window → Window) (j : PortId) : (v.modWindow i f).input j = v.input j := rfl
@[simp] theorem Video.setWindow_port (v : Video) (i : WindowId) (x : Window) (j : PortId) : (v.setWindow i x).port j = v.port j := rfl
@[simp] theorem Video.modWindow_port (v : Video) (i : WindowId) (f : Window → Window) (j : PortId) : (v.modWindow i f).port j = v.port j := rfl
@[simp] theorem Video.setWindow_lock (v : Video) (i : WindowId) (x : Window) (j : PortId) : (v.setWindow i x).lock j = v.lock j := rfl
@[simp] theorem Video.modWindow_lock (v : Video) (i : WindowId) (f : Window → Window) (j : PortId) : (v.modWindow i f).lock j = v.lock j := rfl

@[simp] theorem Video.setInput_input_self (v : Video) (i : PortId) (x : Ingest) : (v.setInput i x).input i = x := by
  simp [Video.setInput, Video.input]

theorem Video.setInput_input (v : Video) (i j : PortId) (x : Ingest) :
    (v.setInput i x).input j = if i = j then x else v.input j := by
  simp only [Video.setInput, Video.input, Fin.getElem_fin, Vector.getElem_set, Fin.ext_iff]

@[simp] theorem Video.setInput_input_ne (v : Video) {i j : PortId} (h : i ≠ j) (x : Ingest) : (v.setInput i x).input j = v.input j := by
  simp [Video.setInput_input, h]

@[simp] theorem Video.modInput_input_self (v : Video) (i : PortId) (f : Ingest → Ingest) : (v.modInput i f).input i = f (v.input i) := by
  simp [Video.modInput]

theorem Video.modInput_input (v : Video) (i j : PortId) (f : Ingest → Ingest) :
    (v.modInput i f).input j = if i = j then f (v.input i) else v.input j := by
  simp [Video.modInput, Video.setInput_input]

@[simp] theorem Video.modInput_input_ne (v : Video) {i j : PortId} (h : i ≠ j) (f : Ingest → Ingest) :
    (v.modInput i f).input j = v.input j := by
  simp [Video.modInput, h]

@[simp] theorem Video.setInput_slots (v : Video) (i : PortId) (x : Ingest) : (v.setInput i x).slots = v.slots := rfl
@[simp] theorem Video.modInput_slots (v : Video) (i : PortId) (f : Ingest → Ingest) : (v.modInput i f).slots = v.slots := rfl
@[simp] theorem Video.setInput_streams (v : Video) (i : PortId) (x : Ingest) : (v.setInput i x).streams = v.streams := rfl
@[simp] theorem Video.modInput_streams (v : Video) (i : PortId) (f : Ingest → Ingest) : (v.modInput i f).streams = v.streams := rfl
@[simp] theorem Video.setInput_windows (v : Video) (i : PortId) (x : Ingest) : (v.setInput i x).windows = v.windows := rfl
@[simp] theorem Video.modInput_windows (v : Video) (i : PortId) (f : Ingest → Ingest) : (v.modInput i f).windows = v.windows := rfl
@[simp] theorem Video.setInput_ports (v : Video) (i : PortId) (x : Ingest) : (v.setInput i x).ports = v.ports := rfl
@[simp] theorem Video.modInput_ports (v : Video) (i : PortId) (f : Ingest → Ingest) : (v.modInput i f).ports = v.ports := rfl
@[simp] theorem Video.setInput_locks (v : Video) (i : PortId) (x : Ingest) : (v.setInput i x).locks = v.locks := rfl
@[simp] theorem Video.modInput_locks (v : Video) (i : PortId) (f : Ingest → Ingest) : (v.modInput i f).locks = v.locks := rfl
@[simp] theorem Video.setInput_attn (v : Video) (i : PortId) (x : Ingest) : (v.setInput i x).attn = v.attn := rfl
@[simp] theorem Video.modInput_attn (v : Video) (i : PortId) (f : Ingest → Ingest) : (v.modInput i f).attn = v.attn := rfl
@[simp] theorem Video.setInput_slot (v : Video) (i : PortId) (x : Ingest) (j : SlotId) : (v.setInput i x).slot j = v.slot j := rfl
@[simp] theorem Video.modInput_slot (v : Video) (i : PortId) (f : Ingest → Ingest) (j : SlotId) : (v.modInput i f).slot j = v.slot j := rfl
@[simp] theorem Video.setInput_stream (v : Video) (i : PortId) (x : Ingest) (j : StreamId) : (v.setInput i x).stream j = v.stream j := rfl
@[simp] theorem Video.modInput_stream (v : Video) (i : PortId) (f : Ingest → Ingest) (j : StreamId) : (v.modInput i f).stream j = v.stream j := rfl
@[simp] theorem Video.setInput_window (v : Video) (i : PortId) (x : Ingest) (j : WindowId) : (v.setInput i x).window j = v.window j := rfl
@[simp] theorem Video.modInput_window (v : Video) (i : PortId) (f : Ingest → Ingest) (j : WindowId) : (v.modInput i f).window j = v.window j := rfl
@[simp] theorem Video.setInput_port (v : Video) (i : PortId) (x : Ingest) (j : PortId) : (v.setInput i x).port j = v.port j := rfl
@[simp] theorem Video.modInput_port (v : Video) (i : PortId) (f : Ingest → Ingest) (j : PortId) : (v.modInput i f).port j = v.port j := rfl
@[simp] theorem Video.setInput_lock (v : Video) (i : PortId) (x : Ingest) (j : PortId) : (v.setInput i x).lock j = v.lock j := rfl
@[simp] theorem Video.modInput_lock (v : Video) (i : PortId) (f : Ingest → Ingest) (j : PortId) : (v.modInput i f).lock j = v.lock j := rfl

@[simp] theorem Video.setPort_port_self (v : Video) (i : PortId) (x : Port) : (v.setPort i x).port i = x := by
  simp [Video.setPort, Video.port]

theorem Video.setPort_port (v : Video) (i j : PortId) (x : Port) :
    (v.setPort i x).port j = if i = j then x else v.port j := by
  simp only [Video.setPort, Video.port, Fin.getElem_fin, Vector.getElem_set, Fin.ext_iff]

@[simp] theorem Video.setPort_port_ne (v : Video) {i j : PortId} (h : i ≠ j) (x : Port) : (v.setPort i x).port j = v.port j := by
  simp [Video.setPort_port, h]

@[simp] theorem Video.modPort_port_self (v : Video) (i : PortId) (f : Port → Port) : (v.modPort i f).port i = f (v.port i) := by
  simp [Video.modPort]

theorem Video.modPort_port (v : Video) (i j : PortId) (f : Port → Port) :
    (v.modPort i f).port j = if i = j then f (v.port i) else v.port j := by
  simp [Video.modPort, Video.setPort_port]

@[simp] theorem Video.modPort_port_ne (v : Video) {i j : PortId} (h : i ≠ j) (f : Port → Port) :
    (v.modPort i f).port j = v.port j := by
  simp [Video.modPort, h]

@[simp] theorem Video.setPort_slots (v : Video) (i : PortId) (x : Port) : (v.setPort i x).slots = v.slots := rfl
@[simp] theorem Video.modPort_slots (v : Video) (i : PortId) (f : Port → Port) : (v.modPort i f).slots = v.slots := rfl
@[simp] theorem Video.setPort_streams (v : Video) (i : PortId) (x : Port) : (v.setPort i x).streams = v.streams := rfl
@[simp] theorem Video.modPort_streams (v : Video) (i : PortId) (f : Port → Port) : (v.modPort i f).streams = v.streams := rfl
@[simp] theorem Video.setPort_windows (v : Video) (i : PortId) (x : Port) : (v.setPort i x).windows = v.windows := rfl
@[simp] theorem Video.modPort_windows (v : Video) (i : PortId) (f : Port → Port) : (v.modPort i f).windows = v.windows := rfl
@[simp] theorem Video.setPort_ingest (v : Video) (i : PortId) (x : Port) : (v.setPort i x).ingest = v.ingest := rfl
@[simp] theorem Video.modPort_ingest (v : Video) (i : PortId) (f : Port → Port) : (v.modPort i f).ingest = v.ingest := rfl
@[simp] theorem Video.setPort_locks (v : Video) (i : PortId) (x : Port) : (v.setPort i x).locks = v.locks := rfl
@[simp] theorem Video.modPort_locks (v : Video) (i : PortId) (f : Port → Port) : (v.modPort i f).locks = v.locks := rfl
@[simp] theorem Video.setPort_attn (v : Video) (i : PortId) (x : Port) : (v.setPort i x).attn = v.attn := rfl
@[simp] theorem Video.modPort_attn (v : Video) (i : PortId) (f : Port → Port) : (v.modPort i f).attn = v.attn := rfl
@[simp] theorem Video.setPort_slot (v : Video) (i : PortId) (x : Port) (j : SlotId) : (v.setPort i x).slot j = v.slot j := rfl
@[simp] theorem Video.modPort_slot (v : Video) (i : PortId) (f : Port → Port) (j : SlotId) : (v.modPort i f).slot j = v.slot j := rfl
@[simp] theorem Video.setPort_stream (v : Video) (i : PortId) (x : Port) (j : StreamId) : (v.setPort i x).stream j = v.stream j := rfl
@[simp] theorem Video.modPort_stream (v : Video) (i : PortId) (f : Port → Port) (j : StreamId) : (v.modPort i f).stream j = v.stream j := rfl
@[simp] theorem Video.setPort_window (v : Video) (i : PortId) (x : Port) (j : WindowId) : (v.setPort i x).window j = v.window j := rfl
@[simp] theorem Video.modPort_window (v : Video) (i : PortId) (f : Port → Port) (j : WindowId) : (v.modPort i f).window j = v.window j := rfl
@[simp] theorem Video.setPort_input (v : Video) (i : PortId) (x : Port) (j : PortId) : (v.setPort i x).input j = v.input j := rfl
@[simp] theorem Video.modPort_input (v : Video) (i : PortId) (f : Port → Port) (j : PortId) : (v.modPort i f).input j = v.input j := rfl
@[simp] theorem Video.setPort_lock (v : Video) (i : PortId) (x : Port) (j : PortId) : (v.setPort i x).lock j = v.lock j := rfl
@[simp] theorem Video.modPort_lock (v : Video) (i : PortId) (f : Port → Port) (j : PortId) : (v.modPort i f).lock j = v.lock j := rfl

@[simp] theorem Video.setLock_lock_self (v : Video) (i : PortId) (x : LockUnit) : (v.setLock i x).lock i = x := by
  simp [Video.setLock, Video.lock]

theorem Video.setLock_lock (v : Video) (i j : PortId) (x : LockUnit) :
    (v.setLock i x).lock j = if i = j then x else v.lock j := by
  simp only [Video.setLock, Video.lock, Fin.getElem_fin, Vector.getElem_set, Fin.ext_iff]

@[simp] theorem Video.setLock_lock_ne (v : Video) {i j : PortId} (h : i ≠ j) (x : LockUnit) : (v.setLock i x).lock j = v.lock j := by
  simp [Video.setLock_lock, h]

@[simp] theorem Video.modLock_lock_self (v : Video) (i : PortId) (f : LockUnit → LockUnit) : (v.modLock i f).lock i = f (v.lock i) := by
  simp [Video.modLock]

theorem Video.modLock_lock (v : Video) (i j : PortId) (f : LockUnit → LockUnit) :
    (v.modLock i f).lock j = if i = j then f (v.lock i) else v.lock j := by
  simp [Video.modLock, Video.setLock_lock]

@[simp] theorem Video.modLock_lock_ne (v : Video) {i j : PortId} (h : i ≠ j) (f : LockUnit → LockUnit) :
    (v.modLock i f).lock j = v.lock j := by
  simp [Video.modLock, h]

@[simp] theorem Video.setLock_slots (v : Video) (i : PortId) (x : LockUnit) : (v.setLock i x).slots = v.slots := rfl
@[simp] theorem Video.modLock_slots (v : Video) (i : PortId) (f : LockUnit → LockUnit) : (v.modLock i f).slots = v.slots := rfl
@[simp] theorem Video.setLock_streams (v : Video) (i : PortId) (x : LockUnit) : (v.setLock i x).streams = v.streams := rfl
@[simp] theorem Video.modLock_streams (v : Video) (i : PortId) (f : LockUnit → LockUnit) : (v.modLock i f).streams = v.streams := rfl
@[simp] theorem Video.setLock_windows (v : Video) (i : PortId) (x : LockUnit) : (v.setLock i x).windows = v.windows := rfl
@[simp] theorem Video.modLock_windows (v : Video) (i : PortId) (f : LockUnit → LockUnit) : (v.modLock i f).windows = v.windows := rfl
@[simp] theorem Video.setLock_ingest (v : Video) (i : PortId) (x : LockUnit) : (v.setLock i x).ingest = v.ingest := rfl
@[simp] theorem Video.modLock_ingest (v : Video) (i : PortId) (f : LockUnit → LockUnit) : (v.modLock i f).ingest = v.ingest := rfl
@[simp] theorem Video.setLock_ports (v : Video) (i : PortId) (x : LockUnit) : (v.setLock i x).ports = v.ports := rfl
@[simp] theorem Video.modLock_ports (v : Video) (i : PortId) (f : LockUnit → LockUnit) : (v.modLock i f).ports = v.ports := rfl
@[simp] theorem Video.setLock_attn (v : Video) (i : PortId) (x : LockUnit) : (v.setLock i x).attn = v.attn := rfl
@[simp] theorem Video.modLock_attn (v : Video) (i : PortId) (f : LockUnit → LockUnit) : (v.modLock i f).attn = v.attn := rfl
@[simp] theorem Video.setLock_slot (v : Video) (i : PortId) (x : LockUnit) (j : SlotId) : (v.setLock i x).slot j = v.slot j := rfl
@[simp] theorem Video.modLock_slot (v : Video) (i : PortId) (f : LockUnit → LockUnit) (j : SlotId) : (v.modLock i f).slot j = v.slot j := rfl
@[simp] theorem Video.setLock_stream (v : Video) (i : PortId) (x : LockUnit) (j : StreamId) : (v.setLock i x).stream j = v.stream j := rfl
@[simp] theorem Video.modLock_stream (v : Video) (i : PortId) (f : LockUnit → LockUnit) (j : StreamId) : (v.modLock i f).stream j = v.stream j := rfl
@[simp] theorem Video.setLock_window (v : Video) (i : PortId) (x : LockUnit) (j : WindowId) : (v.setLock i x).window j = v.window j := rfl
@[simp] theorem Video.modLock_window (v : Video) (i : PortId) (f : LockUnit → LockUnit) (j : WindowId) : (v.modLock i f).window j = v.window j := rfl
@[simp] theorem Video.setLock_input (v : Video) (i : PortId) (x : LockUnit) (j : PortId) : (v.setLock i x).input j = v.input j := rfl
@[simp] theorem Video.modLock_input (v : Video) (i : PortId) (f : LockUnit → LockUnit) (j : PortId) : (v.modLock i f).input j = v.input j := rfl
@[simp] theorem Video.setLock_port (v : Video) (i : PortId) (x : LockUnit) (j : PortId) : (v.setLock i x).port j = v.port j := rfl
@[simp] theorem Video.modLock_port (v : Video) (i : PortId) (f : LockUnit → LockUnit) (j : PortId) : (v.modLock i f).port j = v.port j := rfl

/-! ## Raising a cause -/

@[simp] theorem Video.raise_slots (v : Video) (e : EntryId) (c : CauseSet) : (v.raise e c).slots = v.slots := rfl
@[simp] theorem Video.raise_streams (v : Video) (e : EntryId) (c : CauseSet) : (v.raise e c).streams = v.streams := rfl
@[simp] theorem Video.raise_windows (v : Video) (e : EntryId) (c : CauseSet) : (v.raise e c).windows = v.windows := rfl
@[simp] theorem Video.raise_ingest (v : Video) (e : EntryId) (c : CauseSet) : (v.raise e c).ingest = v.ingest := rfl
@[simp] theorem Video.raise_ports (v : Video) (e : EntryId) (c : CauseSet) : (v.raise e c).ports = v.ports := rfl
@[simp] theorem Video.raise_locks (v : Video) (e : EntryId) (c : CauseSet) : (v.raise e c).locks = v.locks := rfl
@[simp] theorem Video.raiseStream_slots (v : Video) (i : StreamId) (c : StreamCause) : (v.raiseStream i c).slots = v.slots := rfl
@[simp] theorem Video.raiseStream_streams (v : Video) (i : StreamId) (c : StreamCause) : (v.raiseStream i c).streams = v.streams := rfl
@[simp] theorem Video.raiseStream_windows (v : Video) (i : StreamId) (c : StreamCause) : (v.raiseStream i c).windows = v.windows := rfl
@[simp] theorem Video.raiseStream_ingest (v : Video) (i : StreamId) (c : StreamCause) : (v.raiseStream i c).ingest = v.ingest := rfl
@[simp] theorem Video.raiseStream_ports (v : Video) (i : StreamId) (c : StreamCause) : (v.raiseStream i c).ports = v.ports := rfl
@[simp] theorem Video.raiseStream_locks (v : Video) (i : StreamId) (c : StreamCause) : (v.raiseStream i c).locks = v.locks := rfl
@[simp] theorem Video.raiseWindow_slots (v : Video) (i : WindowId) (c : WindowCause) : (v.raiseWindow i c).slots = v.slots := rfl
@[simp] theorem Video.raiseWindow_streams (v : Video) (i : WindowId) (c : WindowCause) : (v.raiseWindow i c).streams = v.streams := rfl
@[simp] theorem Video.raiseWindow_windows (v : Video) (i : WindowId) (c : WindowCause) : (v.raiseWindow i c).windows = v.windows := rfl
@[simp] theorem Video.raiseWindow_ingest (v : Video) (i : WindowId) (c : WindowCause) : (v.raiseWindow i c).ingest = v.ingest := rfl
@[simp] theorem Video.raiseWindow_ports (v : Video) (i : WindowId) (c : WindowCause) : (v.raiseWindow i c).ports = v.ports := rfl
@[simp] theorem Video.raiseWindow_locks (v : Video) (i : WindowId) (c : WindowCause) : (v.raiseWindow i c).locks = v.locks := rfl
@[simp] theorem Video.raisePort_slots (v : Video) (i : PortId) (c : PortCause) : (v.raisePort i c).slots = v.slots := rfl
@[simp] theorem Video.raisePort_streams (v : Video) (i : PortId) (c : PortCause) : (v.raisePort i c).streams = v.streams := rfl
@[simp] theorem Video.raisePort_windows (v : Video) (i : PortId) (c : PortCause) : (v.raisePort i c).windows = v.windows := rfl
@[simp] theorem Video.raisePort_ingest (v : Video) (i : PortId) (c : PortCause) : (v.raisePort i c).ingest = v.ingest := rfl
@[simp] theorem Video.raisePort_ports (v : Video) (i : PortId) (c : PortCause) : (v.raisePort i c).ports = v.ports := rfl
@[simp] theorem Video.raisePort_locks (v : Video) (i : PortId) (c : PortCause) : (v.raisePort i c).locks = v.locks := rfl
@[simp] theorem Video.raiseDevice_slots (v : Video) (c : DeviceCause) : (v.raiseDevice c).slots = v.slots := rfl
@[simp] theorem Video.raiseDevice_streams (v : Video) (c : DeviceCause) : (v.raiseDevice c).streams = v.streams := rfl
@[simp] theorem Video.raiseDevice_windows (v : Video) (c : DeviceCause) : (v.raiseDevice c).windows = v.windows := rfl
@[simp] theorem Video.raiseDevice_ingest (v : Video) (c : DeviceCause) : (v.raiseDevice c).ingest = v.ingest := rfl
@[simp] theorem Video.raiseDevice_ports (v : Video) (c : DeviceCause) : (v.raiseDevice c).ports = v.ports := rfl
@[simp] theorem Video.raiseDevice_locks (v : Video) (c : DeviceCause) : (v.raiseDevice c).locks = v.locks := rfl
@[simp] theorem Video.raise_slot (v : Video) (e : EntryId) (c : CauseSet) (j : SlotId) : (v.raise e c).slot j = v.slot j := rfl
@[simp] theorem Video.raiseStream_slot (v : Video) (i : StreamId) (c : StreamCause) (j : SlotId) :
    (v.raiseStream i c).slot j = v.slot j := rfl
@[simp] theorem Video.raiseWindow_slot (v : Video) (i : WindowId) (c : WindowCause) (j : SlotId) :
    (v.raiseWindow i c).slot j = v.slot j := rfl
@[simp] theorem Video.raisePort_slot (v : Video) (i : PortId) (c : PortCause) (j : SlotId) :
    (v.raisePort i c).slot j = v.slot j := rfl
@[simp] theorem Video.raise_stream (v : Video) (e : EntryId) (c : CauseSet) (j : StreamId) : (v.raise e c).stream j = v.stream j := rfl
@[simp] theorem Video.raiseStream_stream (v : Video) (i : StreamId) (c : StreamCause) (j : StreamId) :
    (v.raiseStream i c).stream j = v.stream j := rfl
@[simp] theorem Video.raiseWindow_stream (v : Video) (i : WindowId) (c : WindowCause) (j : StreamId) :
    (v.raiseWindow i c).stream j = v.stream j := rfl
@[simp] theorem Video.raisePort_stream (v : Video) (i : PortId) (c : PortCause) (j : StreamId) :
    (v.raisePort i c).stream j = v.stream j := rfl
@[simp] theorem Video.raise_window (v : Video) (e : EntryId) (c : CauseSet) (j : WindowId) : (v.raise e c).window j = v.window j := rfl
@[simp] theorem Video.raiseStream_window (v : Video) (i : StreamId) (c : StreamCause) (j : WindowId) :
    (v.raiseStream i c).window j = v.window j := rfl
@[simp] theorem Video.raiseWindow_window (v : Video) (i : WindowId) (c : WindowCause) (j : WindowId) :
    (v.raiseWindow i c).window j = v.window j := rfl
@[simp] theorem Video.raisePort_window (v : Video) (i : PortId) (c : PortCause) (j : WindowId) :
    (v.raisePort i c).window j = v.window j := rfl
@[simp] theorem Video.raise_input (v : Video) (e : EntryId) (c : CauseSet) (j : PortId) : (v.raise e c).input j = v.input j := rfl
@[simp] theorem Video.raiseStream_input (v : Video) (i : StreamId) (c : StreamCause) (j : PortId) :
    (v.raiseStream i c).input j = v.input j := rfl
@[simp] theorem Video.raiseWindow_input (v : Video) (i : WindowId) (c : WindowCause) (j : PortId) :
    (v.raiseWindow i c).input j = v.input j := rfl
@[simp] theorem Video.raisePort_input (v : Video) (i : PortId) (c : PortCause) (j : PortId) :
    (v.raisePort i c).input j = v.input j := rfl
@[simp] theorem Video.raise_port (v : Video) (e : EntryId) (c : CauseSet) (j : PortId) : (v.raise e c).port j = v.port j := rfl
@[simp] theorem Video.raiseStream_port (v : Video) (i : StreamId) (c : StreamCause) (j : PortId) :
    (v.raiseStream i c).port j = v.port j := rfl
@[simp] theorem Video.raiseWindow_port (v : Video) (i : WindowId) (c : WindowCause) (j : PortId) :
    (v.raiseWindow i c).port j = v.port j := rfl
@[simp] theorem Video.raisePort_port (v : Video) (i : PortId) (c : PortCause) (j : PortId) :
    (v.raisePort i c).port j = v.port j := rfl
@[simp] theorem Video.raise_lock (v : Video) (e : EntryId) (c : CauseSet) (j : PortId) : (v.raise e c).lock j = v.lock j := rfl
@[simp] theorem Video.raiseStream_lock (v : Video) (i : StreamId) (c : StreamCause) (j : PortId) :
    (v.raiseStream i c).lock j = v.lock j := rfl
@[simp] theorem Video.raiseWindow_lock (v : Video) (i : WindowId) (c : WindowCause) (j : PortId) :
    (v.raiseWindow i c).lock j = v.lock j := rfl
@[simp] theorem Video.raisePort_lock (v : Video) (i : PortId) (c : PortCause) (j : PortId) :
    (v.raisePort i c).lock j = v.lock j := rfl

/-! ## The records of State -/

@[simp] theorem State.withVideo_video (s : State) (x : Video) : (s.withVideo x).video = x := rfl
@[simp] theorem State.withVideo_channel (s : State) (x : Video) : (s.withVideo x).channel = s.channel := rfl
@[simp] theorem State.withVideo_host (s : State) (x : Video) : (s.withVideo x).host = s.host := rfl
@[simp] theorem State.withVideo_link (s : State) (x : Video) : (s.withVideo x).link = s.link := rfl
@[simp] theorem State.withVideo_mem (s : State) (x : Video) : (s.withVideo x).mem = s.mem := rfl
@[simp] theorem State.withVideo_freeCount (s : State) (x : Video) : (s.withVideo x).freeCount = s.freeCount := rfl
@[simp] theorem State.withVideo_pending (s : State) (x : Video) : (s.withVideo x).pending = s.pending := rfl
@[simp] theorem State.modVideo_video (s : State) (f : Video → Video) : (s.modVideo f).video = f s.video := rfl
@[simp] theorem State.modVideo_channel (s : State) (f : Video → Video) : (s.modVideo f).channel = s.channel := rfl
@[simp] theorem State.modVideo_host (s : State) (f : Video → Video) : (s.modVideo f).host = s.host := rfl
@[simp] theorem State.modVideo_link (s : State) (f : Video → Video) : (s.modVideo f).link = s.link := rfl
@[simp] theorem State.modVideo_mem (s : State) (f : Video → Video) : (s.modVideo f).mem = s.mem := rfl
@[simp] theorem State.modVideo_freeCount (s : State) (f : Video → Video) : (s.modVideo f).freeCount = s.freeCount := rfl
@[simp] theorem State.modVideo_pending (s : State) (f : Video → Video) : (s.modVideo f).pending = s.pending := rfl
@[simp] theorem State.modChannel_video (s : State) (f : Channel → Channel) : (s.modChannel f).video = s.video := rfl
@[simp] theorem State.modChannel_channel (s : State) (f : Channel → Channel) : (s.modChannel f).channel = f s.channel := rfl
@[simp] theorem State.modChannel_host (s : State) (f : Channel → Channel) : (s.modChannel f).host = s.host := rfl
@[simp] theorem State.modChannel_link (s : State) (f : Channel → Channel) : (s.modChannel f).link = s.link := rfl
@[simp] theorem State.modChannel_mem (s : State) (f : Channel → Channel) : (s.modChannel f).mem = s.mem := rfl
@[simp] theorem State.modChannel_freeCount (s : State) (f : Channel → Channel) : (s.modChannel f).freeCount = s.freeCount := rfl
@[simp] theorem State.modChannel_pending (s : State) (f : Channel → Channel) : (s.modChannel f).pending = s.pending := rfl
@[simp] theorem State.modHost_video (s : State) (f : HostUnit → HostUnit) : (s.modHost f).video = s.video := rfl
@[simp] theorem State.modHost_channel (s : State) (f : HostUnit → HostUnit) : (s.modHost f).channel = s.channel := rfl
@[simp] theorem State.modHost_host (s : State) (f : HostUnit → HostUnit) : (s.modHost f).host = f s.host := rfl
@[simp] theorem State.modHost_link (s : State) (f : HostUnit → HostUnit) : (s.modHost f).link = s.link := rfl
@[simp] theorem State.modHost_mem (s : State) (f : HostUnit → HostUnit) : (s.modHost f).mem = s.mem := rfl
@[simp] theorem State.modHost_freeCount (s : State) (f : HostUnit → HostUnit) : (s.modHost f).freeCount = s.freeCount := rfl
@[simp] theorem State.modHost_pending (s : State) (f : HostUnit → HostUnit) : (s.modHost f).pending = s.pending := rfl
@[simp] theorem State.modLink_video (s : State) (f : Link → Link) : (s.modLink f).video = s.video := rfl
@[simp] theorem State.modLink_channel (s : State) (f : Link → Link) : (s.modLink f).channel = s.channel := rfl
@[simp] theorem State.modLink_host (s : State) (f : Link → Link) : (s.modLink f).host = s.host := rfl
@[simp] theorem State.modLink_link (s : State) (f : Link → Link) : (s.modLink f).link = f s.link := rfl
@[simp] theorem State.modLink_mem (s : State) (f : Link → Link) : (s.modLink f).mem = s.mem := rfl
@[simp] theorem State.modLink_freeCount (s : State) (f : Link → Link) : (s.modLink f).freeCount = s.freeCount := rfl
@[simp] theorem State.modLink_pending (s : State) (f : Link → Link) : (s.modLink f).pending = s.pending := rfl
@[simp] theorem State.respond_video (s : State) (tag code : Byte) (st : Status) (p : List Byte) : (s.respond tag code st p).video = s.video := rfl
@[simp] theorem State.respond_channel (s : State) (tag code : Byte) (st : Status) (p : List Byte) : (s.respond tag code st p).channel = s.channel := rfl
@[simp] theorem State.respond_host (s : State) (tag code : Byte) (st : Status) (p : List Byte) : (s.respond tag code st p).host = s.host := rfl
@[simp] theorem State.respond_mem (s : State) (tag code : Byte) (st : Status) (p : List Byte) : (s.respond tag code st p).mem = s.mem := rfl
@[simp] theorem State.respond_freeCount (s : State) (tag code : Byte) (st : Status) (p : List Byte) : (s.respond tag code st p).freeCount = s.freeCount := rfl
@[simp] theorem State.respond_pending (s : State) (tag code : Byte) (st : Status) (p : List Byte) : (s.respond tag code st p).pending = s.pending := rfl
@[simp] theorem State.shiftOut_video (s : State) (x : List Byte) : (s.shiftOut x).video = s.video := rfl
@[simp] theorem State.shiftOut_channel (s : State) (x : List Byte) : (s.shiftOut x).channel = s.channel := rfl
@[simp] theorem State.shiftOut_host (s : State) (x : List Byte) : (s.shiftOut x).host = s.host := rfl
@[simp] theorem State.shiftOut_mem (s : State) (x : List Byte) : (s.shiftOut x).mem = s.mem := rfl
@[simp] theorem State.shiftOut_freeCount (s : State) (x : List Byte) : (s.shiftOut x).freeCount = s.freeCount := rfl
@[simp] theorem State.shiftOut_pending (s : State) (x : List Byte) : (s.shiftOut x).pending = s.pending := rfl
@[simp] theorem State.linkFault_channel (s : State) (k : LinkFault) (tag : Byte) : (s.linkFault k tag).channel = s.channel := rfl
@[simp] theorem State.linkFault_host (s : State) (k : LinkFault) (tag : Byte) : (s.linkFault k tag).host = s.host := rfl
@[simp] theorem State.linkFault_mem (s : State) (k : LinkFault) (tag : Byte) : (s.linkFault k tag).mem = s.mem := rfl
@[simp] theorem State.linkFault_freeCount (s : State) (k : LinkFault) (tag : Byte) : (s.linkFault k tag).freeCount = s.freeCount := rfl
@[simp] theorem State.linkFault_pending (s : State) (k : LinkFault) (tag : Byte) : (s.linkFault k tag).pending = s.pending := rfl
@[simp] theorem State.issue_video (s : State) (t : Transfer) : (s.issue t).video = s.video := rfl
@[simp] theorem State.issue_host (s : State) (t : Transfer) : (s.issue t).host = s.host := rfl
@[simp] theorem State.issue_link (s : State) (t : Transfer) : (s.issue t).link = s.link := rfl
@[simp] theorem State.issue_mem (s : State) (t : Transfer) : (s.issue t).mem = s.mem := rfl
@[simp] theorem State.issue_freeCount (s : State) (t : Transfer) : (s.issue t).freeCount = s.freeCount := rfl
@[simp] theorem State.issue_pending (s : State) (t : Transfer) : (s.issue t).pending = s.pending := rfl
@[simp] theorem State.respond_commands (s : State) (tag code : Byte) (st : Status) (p : List Byte) :
    (s.respond tag code st p).link.commands = s.link.commands := rfl
@[simp] theorem State.respond_executing (s : State) (tag code : Byte) (st : Status) (p : List Byte) :
    (s.respond tag code st p).link.executing = s.link.executing := rfl
@[simp] theorem State.respond_responses (s : State) (tag code : Byte) (st : Status) (p : List Byte) :
    (s.respond tag code st p).link.responses
      = s.link.responses ++ [{ tag := tag, code := code, status := st, payload := p }] := rfl

/-! ## A record set twice, or set to itself -/

@[simp] theorem Video.setSlot_setSlot (v : Video) (i : SlotId) (x y : Slot) : (v.setSlot i x).setSlot i y = v.setSlot i y := by
  simp [Video.setSlot]
@[simp] theorem Video.setSlot_self (v : Video) (i : SlotId) : v.setSlot i (v.slot i) = v := by
  simp [Video.setSlot, Video.slot]
@[simp] theorem Video.setStream_setStream (v : Video) (i : StreamId) (x y : Stream) : (v.setStream i x).setStream i y = v.setStream i y := by
  simp [Video.setStream]
@[simp] theorem Video.setStream_self (v : Video) (i : StreamId) : v.setStream i (v.stream i) = v := by
  simp [Video.setStream, Video.stream]
@[simp] theorem Video.setWindow_setWindow (v : Video) (i : WindowId) (x y : Window) : (v.setWindow i x).setWindow i y = v.setWindow i y := by
  simp [Video.setWindow]
@[simp] theorem Video.setWindow_self (v : Video) (i : WindowId) : v.setWindow i (v.window i) = v := by
  simp [Video.setWindow, Video.window]
@[simp] theorem Video.setInput_setInput (v : Video) (i : PortId) (x y : Ingest) : (v.setInput i x).setInput i y = v.setInput i y := by
  simp [Video.setInput]
@[simp] theorem Video.setInput_self (v : Video) (i : PortId) : v.setInput i (v.input i) = v := by
  simp [Video.setInput, Video.input]
@[simp] theorem Video.setPort_setPort (v : Video) (i : PortId) (x y : Port) : (v.setPort i x).setPort i y = v.setPort i y := by
  simp [Video.setPort]
@[simp] theorem Video.setPort_self (v : Video) (i : PortId) : v.setPort i (v.port i) = v := by
  simp [Video.setPort, Video.port]
@[simp] theorem Video.setLock_setLock (v : Video) (i : PortId) (x y : LockUnit) : (v.setLock i x).setLock i y = v.setLock i y := by
  simp [Video.setLock]
@[simp] theorem Video.setLock_self (v : Video) (i : PortId) : v.setLock i (v.lock i) = v := by
  simp [Video.setLock, Video.lock]

/-- A stream is written before a slot or after it. -/
theorem Video.setStream_setSlot (v : Video) (st : StreamId) (x : Stream) (i : SlotId) (y : Slot) :
    (v.setStream st x).setSlot i y = (v.setSlot i y).setStream st x := rfl

end Sys2Proof.Machine
end

