-- ==== Sys2Proof/Laws/Frames.lean ====
section
/-! SUPPORT. What each claim and each step of the video blocks leaves as it was: one lemma per operation and per table
of records that it never writes. -/

namespace Sys2Proof.Machine

/-- A projection kept by every round of a fold is kept by the fold. -/
theorem foldl_keeps {α β γ : Type} (g : β → γ) (f : β → α → β) (h : ∀ b a, g (f b a) = g b) :
    ∀ (l : List α) (b : β), g (l.foldl f b) = g b
  | [], _ => rfl
  | a :: l, b => by rw [List.foldl_cons, foldl_keeps g f h l, h]

@[simp] theorem Video.depart_windows (v : Video) (i : SlotId) : (v.depart i).windows = v.windows := by
  unfold Video.depart
  try dsimp only
  repeat' split
  all_goals simp

@[simp] theorem Video.depart_ingest (v : Video) (i : SlotId) : (v.depart i).ingest = v.ingest := by
  unfold Video.depart
  try dsimp only
  repeat' split
  all_goals simp

@[simp] theorem Video.depart_ports (v : Video) (i : SlotId) : (v.depart i).ports = v.ports := by
  unfold Video.depart
  try dsimp only
  repeat' split
  all_goals simp

@[simp] theorem Video.depart_locks (v : Video) (i : SlotId) : (v.depart i).locks = v.locks := by
  unfold Video.depart
  try dsimp only
  repeat' split
  all_goals simp


@[simp] theorem Video.tryDepart_windows (v : Video) (i : SlotId) : (v.tryDepart i).windows = v.windows := by
  unfold Video.tryDepart
  try dsimp only
  repeat' split
  all_goals simp

@[simp] theorem Video.tryDepart_ingest (v : Video) (i : SlotId) : (v.tryDepart i).ingest = v.ingest := by
  unfold Video.tryDepart
  try dsimp only
  repeat' split
  all_goals simp

@[simp] theorem Video.tryDepart_ports (v : Video) (i : SlotId) : (v.tryDepart i).ports = v.ports := by
  unfold Video.tryDepart
  try dsimp only
  repeat' split
  all_goals simp

@[simp] theorem Video.tryDepart_locks (v : Video) (i : SlotId) : (v.tryDepart i).locks = v.locks := by
  unfold Video.tryDepart
  try dsimp only
  repeat' split
  all_goals simp


@[simp] theorem Video.latchClaim_streams (v : Video) (w : WindowId) (i : SlotId) : (v.latchClaim w i).streams = v.streams := by
  unfold Video.latchClaim
  try dsimp only
  repeat' split
  all_goals simp

@[simp] theorem Video.latchClaim_windows (v : Video) (w : WindowId) (i : SlotId) : (v.latchClaim w i).windows = v.windows := by
  unfold Video.latchClaim
  try dsimp only
  repeat' split
  all_goals simp

@[simp] theorem Video.latchClaim_ingest (v : Video) (w : WindowId) (i : SlotId) : (v.latchClaim w i).ingest = v.ingest := by
  unfold Video.latchClaim
  try dsimp only
  repeat' split
  all_goals simp

@[simp] theorem Video.latchClaim_ports (v : Video) (w : WindowId) (i : SlotId) : (v.latchClaim w i).ports = v.ports := by
  unfold Video.latchClaim
  try dsimp only
  repeat' split
  all_goals simp

@[simp] theorem Video.latchClaim_locks (v : Video) (w : WindowId) (i : SlotId) : (v.latchClaim w i).locks = v.locks := by
  unfold Video.latchClaim
  try dsimp only
  repeat' split
  all_goals simp

@[simp] theorem Video.latchClaim_attn (v : Video) (w : WindowId) (i : SlotId) : (v.latchClaim w i).attn = v.attn := by
  unfold Video.latchClaim
  try dsimp only
  repeat' split
  all_goals simp


@[simp] theorem Video.release_windows (v : Video) (w : WindowId) (i : SlotId) : (v.release w i).windows = v.windows := by
  unfold Video.release
  try dsimp only
  repeat' split
  all_goals simp

@[simp] theorem Video.release_ingest (v : Video) (w : WindowId) (i : SlotId) : (v.release w i).ingest = v.ingest := by
  unfold Video.release
  try dsimp only
  repeat' split
  all_goals simp

@[simp] theorem Video.release_ports (v : Video) (w : WindowId) (i : SlotId) : (v.release w i).ports = v.ports := by
  unfold Video.release
  try dsimp only
  repeat' split
  all_goals simp

@[simp] theorem Video.release_locks (v : Video) (w : WindowId) (i : SlotId) : (v.release w i).locks = v.locks := by
  unfold Video.release
  try dsimp only
  repeat' split
  all_goals simp


@[simp] theorem Video.releaseOpt_windows (v : Video) (w : WindowId) (o : Option SlotId) : (v.releaseOpt w o).windows = v.windows := by
  cases o <;> simp [Video.releaseOpt]

@[simp] theorem Video.releaseOpt_ingest (v : Video) (w : WindowId) (o : Option SlotId) : (v.releaseOpt w o).ingest = v.ingest := by
  cases o <;> simp [Video.releaseOpt]

@[simp] theorem Video.releaseOpt_ports (v : Video) (w : WindowId) (o : Option SlotId) : (v.releaseOpt w o).ports = v.ports := by
  cases o <;> simp [Video.releaseOpt]

@[simp] theorem Video.releaseOpt_locks (v : Video) (w : WindowId) (o : Option SlotId) : (v.releaseOpt w o).locks = v.locks := by
  cases o <;> simp [Video.releaseOpt]


@[simp] theorem Video.dischargeSlot_windows (v : Video) (w : WindowId) (i : SlotId) : (v.dischargeSlot w i).windows = v.windows := by
  unfold Video.dischargeSlot
  try dsimp only
  repeat' split
  all_goals simp

@[simp] theorem Video.dischargeSlot_ingest (v : Video) (w : WindowId) (i : SlotId) : (v.dischargeSlot w i).ingest = v.ingest := by
  unfold Video.dischargeSlot
  try dsimp only
  repeat' split
  all_goals simp

@[simp] theorem Video.dischargeSlot_ports (v : Video) (w : WindowId) (i : SlotId) : (v.dischargeSlot w i).ports = v.ports := by
  unfold Video.dischargeSlot
  try dsimp only
  repeat' split
  all_goals simp

@[simp] theorem Video.dischargeSlot_locks (v : Video) (w : WindowId) (i : SlotId) : (v.dischargeSlot w i).locks = v.locks := by
  unfold Video.dischargeSlot
  try dsimp only
  repeat' split
  all_goals simp


@[simp] theorem Video.dischargeAll_windows (v : Video) (w : WindowId) : (v.dischargeAll w).windows = v.windows := by
  unfold Video.dischargeAll
  refine (foldl_keeps Video.windows _ (fun v i => ?_) _ _).trans ?_
  · try dsimp only
    all_goals simp
  · simp

@[simp] theorem Video.dischargeAll_ingest (v : Video) (w : WindowId) : (v.dischargeAll w).ingest = v.ingest := by
  unfold Video.dischargeAll
  refine (foldl_keeps Video.ingest _ (fun v i => ?_) _ _).trans ?_
  · try dsimp only
    all_goals simp
  · simp

@[simp] theorem Video.dischargeAll_ports (v : Video) (w : WindowId) : (v.dischargeAll w).ports = v.ports := by
  unfold Video.dischargeAll
  refine (foldl_keeps Video.ports _ (fun v i => ?_) _ _).trans ?_
  · try dsimp only
    all_goals simp
  · simp

@[simp] theorem Video.dischargeAll_locks (v : Video) (w : WindowId) : (v.dischargeAll w).locks = v.locks := by
  unfold Video.dischargeAll
  refine (foldl_keeps Video.locks _ (fun v i => ?_) _ _).trans ?_
  · try dsimp only
    all_goals simp
  · simp


@[simp] theorem Video.dischargeUpTo_windows (v : Video) (w : WindowId) (st : StreamId) (q : Seq) : (v.dischargeUpTo w st q).windows = v.windows := by
  unfold Video.dischargeUpTo
  refine (foldl_keeps Video.windows _ (fun v i => ?_) _ _).trans ?_
  · try dsimp only
    repeat' split
    all_goals simp
  · simp

@[simp] theorem Video.dischargeUpTo_ingest (v : Video) (w : WindowId) (st : StreamId) (q : Seq) : (v.dischargeUpTo w st q).ingest = v.ingest := by
  unfold Video.dischargeUpTo
  refine (foldl_keeps Video.ingest _ (fun v i => ?_) _ _).trans ?_
  · try dsimp only
    repeat' split
    all_goals simp
  · simp

@[simp] theorem Video.dischargeUpTo_ports (v : Video) (w : WindowId) (st : StreamId) (q : Seq) : (v.dischargeUpTo w st q).ports = v.ports := by
  unfold Video.dischargeUpTo
  refine (foldl_keeps Video.ports _ (fun v i => ?_) _ _).trans ?_
  · try dsimp only
    repeat' split
    all_goals simp
  · simp

@[simp] theorem Video.dischargeUpTo_locks (v : Video) (w : WindowId) (st : StreamId) (q : Seq) : (v.dischargeUpTo w st q).locks = v.locks := by
  unfold Video.dischargeUpTo
  refine (foldl_keeps Video.locks _ (fun v i => ?_) _ _).trans ?_
  · try dsimp only
    repeat' split
    all_goals simp
  · simp


@[simp] theorem Video.dischargeStream_windows (v : Video) (st : StreamId) : (v.dischargeStream st).windows = v.windows := by
  unfold Video.dischargeStream
  refine (foldl_keeps Video.windows _ (fun v i => ?_) _ _).trans ?_
  · try dsimp only
    repeat' split
    all_goals simp
  · simp

@[simp] theorem Video.dischargeStream_ingest (v : Video) (st : StreamId) : (v.dischargeStream st).ingest = v.ingest := by
  unfold Video.dischargeStream
  refine (foldl_keeps Video.ingest _ (fun v i => ?_) _ _).trans ?_
  · try dsimp only
    repeat' split
    all_goals simp
  · simp

@[simp] theorem Video.dischargeStream_ports (v : Video) (st : StreamId) : (v.dischargeStream st).ports = v.ports := by
  unfold Video.dischargeStream
  refine (foldl_keeps Video.ports _ (fun v i => ?_) _ _).trans ?_
  · try dsimp only
    repeat' split
    all_goals simp
  · simp

@[simp] theorem Video.dischargeStream_locks (v : Video) (st : StreamId) : (v.dischargeStream st).locks = v.locks := by
  unfold Video.dischargeStream
  refine (foldl_keeps Video.locks _ (fun v i => ?_) _ _).trans ?_
  · try dsimp only
    repeat' split
    all_goals simp
  · simp


@[simp] theorem Video.endWaitOf_slots (v : Video) (w : WindowId) : (v.endWaitOf w).slots = v.slots := by
  unfold Video.endWaitOf
  try dsimp only
  repeat' split
  all_goals simp

@[simp] theorem Video.endWaitOf_streams (v : Video) (w : WindowId) : (v.endWaitOf w).streams = v.streams := by
  unfold Video.endWaitOf
  try dsimp only
  repeat' split
  all_goals simp

@[simp] theorem Video.endWaitOf_windows (v : Video) (w : WindowId) : (v.endWaitOf w).windows = v.windows := by
  unfold Video.endWaitOf
  try dsimp only
  repeat' split
  all_goals simp

@[simp] theorem Video.endWaitOf_ingest (v : Video) (w : WindowId) : (v.endWaitOf w).ingest = v.ingest := by
  unfold Video.endWaitOf
  try dsimp only
  repeat' split
  all_goals simp

@[simp] theorem Video.endWaitOf_locks (v : Video) (w : WindowId) : (v.endWaitOf w).locks = v.locks := by
  unfold Video.endWaitOf
  try dsimp only
  repeat' split
  all_goals simp

@[simp] theorem Video.endWaitOf_attn (v : Video) (w : WindowId) : (v.endWaitOf w).attn = v.attn := by
  unfold Video.endWaitOf
  try dsimp only
  repeat' split
  all_goals simp


@[simp] theorem Video.endWaitsOn_slots (v : Video) (i : SlotId) (past : Nat → Bool) : (v.endWaitsOn i past).slots = v.slots := by
  unfold Video.endWaitsOn
  refine (foldl_keeps Video.slots _ (fun v i => ?_) _ _).trans ?_
  · try dsimp only
    repeat' split
    all_goals simp
  · simp

@[simp] theorem Video.endWaitsOn_streams (v : Video) (i : SlotId) (past : Nat → Bool) : (v.endWaitsOn i past).streams = v.streams := by
  unfold Video.endWaitsOn
  refine (foldl_keeps Video.streams _ (fun v i => ?_) _ _).trans ?_
  · try dsimp only
    repeat' split
    all_goals simp
  · simp

@[simp] theorem Video.endWaitsOn_windows (v : Video) (i : SlotId) (past : Nat → Bool) : (v.endWaitsOn i past).windows = v.windows := by
  unfold Video.endWaitsOn
  refine (foldl_keeps Video.windows _ (fun v i => ?_) _ _).trans ?_
  · try dsimp only
    repeat' split
    all_goals simp
  · simp

@[simp] theorem Video.endWaitsOn_ingest (v : Video) (i : SlotId) (past : Nat → Bool) : (v.endWaitsOn i past).ingest = v.ingest := by
  unfold Video.endWaitsOn
  refine (foldl_keeps Video.ingest _ (fun v i => ?_) _ _).trans ?_
  · try dsimp only
    repeat' split
    all_goals simp
  · simp

@[simp] theorem Video.endWaitsOn_locks (v : Video) (i : SlotId) (past : Nat → Bool) : (v.endWaitsOn i past).locks = v.locks := by
  unfold Video.endWaitsOn
  refine (foldl_keeps Video.locks _ (fun v i => ?_) _ _).trans ?_
  · try dsimp only
    repeat' split
    all_goals simp
  · simp

@[simp] theorem Video.endWaitsOn_attn (v : Video) (i : SlotId) (past : Nat → Bool) : (v.endWaitsOn i past).attn = v.attn := by
  unfold Video.endWaitsOn
  refine (foldl_keeps Video.attn _ (fun v i => ?_) _ _).trans ?_
  · try dsimp only
    repeat' split
    all_goals simp
  · simp


@[simp] theorem Video.switchToFallback_ingest (v : Video) (w : WindowId) : (v.switchToFallback w).ingest = v.ingest := by
  unfold Video.switchToFallback
  try dsimp only
  repeat' split
  all_goals simp

@[simp] theorem Video.switchToFallback_ports (v : Video) (w : WindowId) : (v.switchToFallback w).ports = v.ports := by
  unfold Video.switchToFallback
  try dsimp only
  repeat' split
  all_goals simp

@[simp] theorem Video.switchToFallback_locks (v : Video) (w : WindowId) : (v.switchToFallback w).locks = v.locks := by
  unfold Video.switchToFallback
  try dsimp only
  repeat' split
  all_goals simp


@[simp] theorem Video.forcedFallback_ingest (v : Video) (w : WindowId) : (v.forcedFallback w).ingest = v.ingest := by
  unfold Video.forcedFallback
  try dsimp only
  repeat' split
  all_goals simp

@[simp] theorem Video.forcedFallback_locks (v : Video) (w : WindowId) : (v.forcedFallback w).locks = v.locks := by
  unfold Video.forcedFallback
  try dsimp only
  repeat' split
  all_goals simp


@[simp] theorem Video.commit_streams (v : Video) (i : SlotId) (q : Seq) (n : Nat) : (v.commit i q n).streams = v.streams := by
  unfold Video.commit
  try dsimp only
  repeat' split
  all_goals simp

@[simp] theorem Video.commit_windows (v : Video) (i : SlotId) (q : Seq) (n : Nat) : (v.commit i q n).windows = v.windows := by
  unfold Video.commit
  try dsimp only
  repeat' split
  all_goals simp

@[simp] theorem Video.commit_ingest (v : Video) (i : SlotId) (q : Seq) (n : Nat) : (v.commit i q n).ingest = v.ingest := by
  unfold Video.commit
  try dsimp only
  repeat' split
  all_goals simp

@[simp] theorem Video.commit_locks (v : Video) (i : SlotId) (q : Seq) (n : Nat) : (v.commit i q n).locks = v.locks := by
  unfold Video.commit
  try dsimp only
  repeat' split
  all_goals simp

@[simp] theorem Video.commit_attn (v : Video) (i : SlotId) (q : Seq) (n : Nat) : (v.commit i q n).attn = v.attn := by
  unfold Video.commit
  try dsimp only
  repeat' split
  all_goals simp


@[simp] theorem Video.markDamage_streams (v : Video) (i : SlotId) (q : Seq) (k : DamageKind) : (v.markDamage i q k).streams = v.streams := by
  unfold Video.markDamage
  try dsimp only
  repeat' split
  all_goals simp

@[simp] theorem Video.markDamage_windows (v : Video) (i : SlotId) (q : Seq) (k : DamageKind) : (v.markDamage i q k).windows = v.windows := by
  unfold Video.markDamage
  try dsimp only
  repeat' split
  all_goals simp

@[simp] theorem Video.markDamage_ingest (v : Video) (i : SlotId) (q : Seq) (k : DamageKind) : (v.markDamage i q k).ingest = v.ingest := by
  unfold Video.markDamage
  try dsimp only
  repeat' split
  all_goals simp

@[simp] theorem Video.markDamage_ports (v : Video) (i : SlotId) (q : Seq) (k : DamageKind) : (v.markDamage i q k).ports = v.ports := by
  unfold Video.markDamage
  try dsimp only
  repeat' split
  all_goals simp

@[simp] theorem Video.markDamage_locks (v : Video) (i : SlotId) (q : Seq) (k : DamageKind) : (v.markDamage i q k).locks = v.locks := by
  unfold Video.markDamage
  try dsimp only
  repeat' split
  all_goals simp

@[simp] theorem Video.markDamage_attn (v : Video) (i : SlotId) (q : Seq) (k : DamageKind) : (v.markDamage i q k).attn = v.attn := by
  unfold Video.markDamage
  try dsimp only
  repeat' split
  all_goals simp


@[simp] theorem Video.endClaim_streams (v : Video) (i : SlotId) (q : Seq) : (v.endClaim i q).streams = v.streams := by
  unfold Video.endClaim
  try dsimp only
  repeat' split
  all_goals simp

@[simp] theorem Video.endClaim_windows (v : Video) (i : SlotId) (q : Seq) : (v.endClaim i q).windows = v.windows := by
  unfold Video.endClaim
  try dsimp only
  repeat' split
  all_goals simp

@[simp] theorem Video.endClaim_ingest (v : Video) (i : SlotId) (q : Seq) : (v.endClaim i q).ingest = v.ingest := by
  unfold Video.endClaim
  try dsimp only
  repeat' split
  all_goals simp

@[simp] theorem Video.endClaim_ports (v : Video) (i : SlotId) (q : Seq) : (v.endClaim i q).ports = v.ports := by
  unfold Video.endClaim
  try dsimp only
  repeat' split
  all_goals simp

@[simp] theorem Video.endClaim_locks (v : Video) (i : SlotId) (q : Seq) : (v.endClaim i q).locks = v.locks := by
  unfold Video.endClaim
  try dsimp only
  repeat' split
  all_goals simp

@[simp] theorem Video.endClaim_attn (v : Video) (i : SlotId) (q : Seq) : (v.endClaim i q).attn = v.attn := by
  unfold Video.endClaim
  try dsimp only
  repeat' split
  all_goals simp


@[simp] theorem Video.emptySlot_windows (v : Video) (i : SlotId) : (v.emptySlot i).windows = v.windows := by
  unfold Video.emptySlot
  try dsimp only
  all_goals simp

@[simp] theorem Video.emptySlot_ingest (v : Video) (i : SlotId) : (v.emptySlot i).ingest = v.ingest := by
  unfold Video.emptySlot
  try dsimp only
  all_goals simp

@[simp] theorem Video.emptySlot_ports (v : Video) (i : SlotId) : (v.emptySlot i).ports = v.ports := by
  unfold Video.emptySlot
  try dsimp only
  all_goals simp

@[simp] theorem Video.emptySlot_locks (v : Video) (i : SlotId) : (v.emptySlot i).locks = v.locks := by
  unfold Video.emptySlot
  try dsimp only
  all_goals simp


@[simp] theorem Video.forceOutReaders_ingest (v : Video) (i : SlotId) : (v.forceOutReaders i).ingest = v.ingest := by
  unfold Video.forceOutReaders
  refine (foldl_keeps Video.ingest _ (fun v i => ?_) _ _).trans ?_
  · try dsimp only
    all_goals simp
  · simp

@[simp] theorem Video.forceOutReaders_locks (v : Video) (i : SlotId) : (v.forceOutReaders i).locks = v.locks := by
  unfold Video.forceOutReaders
  refine (foldl_keeps Video.locks _ (fun v i => ?_) _ _).trans ?_
  · try dsimp only
    all_goals simp
  · simp


@[simp] theorem Video.abandon_ingest (v : Video) (i : SlotId) : (v.abandon i).ingest = v.ingest := by
  unfold Video.abandon
  try dsimp only
  repeat' split
  all_goals simp

@[simp] theorem Video.abandon_locks (v : Video) (i : SlotId) : (v.abandon i).locks = v.locks := by
  unfold Video.abandon
  try dsimp only
  repeat' split
  all_goals simp


@[simp] theorem Video.abandonClaim_ingest (v : Video) (i : SlotId) (q : Seq) : (v.abandonClaim i q).ingest = v.ingest := by
  unfold Video.abandonClaim
  try dsimp only
  repeat' split
  all_goals simp

@[simp] theorem Video.abandonClaim_locks (v : Video) (i : SlotId) (q : Seq) : (v.abandonClaim i q).locks = v.locks := by
  unfold Video.abandonClaim
  try dsimp only
  repeat' split
  all_goals simp


@[simp] theorem Video.discardFrame_ingest (v : Video) (st : StreamId) (i : SlotId) : (v.discardFrame st i).ingest = v.ingest := by
  unfold Video.discardFrame
  try dsimp only
  repeat' split
  all_goals simp

@[simp] theorem Video.discardFrame_locks (v : Video) (st : StreamId) (i : SlotId) : (v.discardFrame st i).locks = v.locks := by
  unfold Video.discardFrame
  try dsimp only
  repeat' split
  all_goals simp


@[simp] theorem Video.publishFrame_windows (v : Video) (st : StreamId) (i : SlotId) : (v.publishFrame st i).windows = v.windows := by
  unfold Video.publishFrame
  try dsimp only
  repeat' split
  all_goals simp

@[simp] theorem Video.publishFrame_ingest (v : Video) (st : StreamId) (i : SlotId) : (v.publishFrame st i).ingest = v.ingest := by
  unfold Video.publishFrame
  try dsimp only
  repeat' split
  all_goals simp

@[simp] theorem Video.publishFrame_locks (v : Video) (st : StreamId) (i : SlotId) : (v.publishFrame st i).locks = v.locks := by
  unfold Video.publishFrame
  try dsimp only
  repeat' split
  all_goals simp


@[simp] theorem Video.complete_ingest (v : Video) (i : SlotId) (q : Seq) : (v.complete i q).ingest = v.ingest := by
  unfold Video.complete
  try dsimp only
  repeat' split
  all_goals simp

@[simp] theorem Video.complete_locks (v : Video) (i : SlotId) (q : Seq) : (v.complete i q).locks = v.locks := by
  unfold Video.complete
  try dsimp only
  repeat' split
  all_goals simp


@[simp] theorem Video.join_windows (v : Video) (st : StreamId) (i : SlotId) : (v.join st i).windows = v.windows := by
  unfold Video.join
  try dsimp only
  repeat' split
  all_goals simp

@[simp] theorem Video.join_ingest (v : Video) (st : StreamId) (i : SlotId) : (v.join st i).ingest = v.ingest := by
  unfold Video.join
  try dsimp only
  repeat' split
  all_goals simp

@[simp] theorem Video.join_ports (v : Video) (st : StreamId) (i : SlotId) : (v.join st i).ports = v.ports := by
  unfold Video.join
  try dsimp only
  repeat' split
  all_goals simp

@[simp] theorem Video.join_locks (v : Video) (st : StreamId) (i : SlotId) : (v.join st i).locks = v.locks := by
  unfold Video.join
  try dsimp only
  repeat' split
  all_goals simp

@[simp] theorem Video.join_attn (v : Video) (st : StreamId) (i : SlotId) : (v.join st i).attn = v.attn := by
  unfold Video.join
  try dsimp only
  repeat' split
  all_goals simp


@[simp] theorem Video.detachSlot_windows (v : Video) (i : SlotId) : (v.detachSlot i).windows = v.windows := by
  unfold Video.detachSlot
  try dsimp only
  repeat' split
  all_goals simp

@[simp] theorem Video.detachSlot_ingest (v : Video) (i : SlotId) : (v.detachSlot i).ingest = v.ingest := by
  unfold Video.detachSlot
  try dsimp only
  repeat' split
  all_goals simp

@[simp] theorem Video.detachSlot_ports (v : Video) (i : SlotId) : (v.detachSlot i).ports = v.ports := by
  unfold Video.detachSlot
  try dsimp only
  repeat' split
  all_goals simp

@[simp] theorem Video.detachSlot_locks (v : Video) (i : SlotId) : (v.detachSlot i).locks = v.locks := by
  unfold Video.detachSlot
  try dsimp only
  repeat' split
  all_goals simp


@[simp] theorem Video.detach_windows (v : Video) (st : StreamId) : (v.detach st).windows = v.windows := by
  unfold Video.detach
  refine (foldl_keeps Video.windows _ (fun v i => ?_) _ _).trans ?_
  · try dsimp only
    all_goals simp
  · simp

@[simp] theorem Video.detach_ingest (v : Video) (st : StreamId) : (v.detach st).ingest = v.ingest := by
  unfold Video.detach
  refine (foldl_keeps Video.ingest _ (fun v i => ?_) _ _).trans ?_
  · try dsimp only
    all_goals simp
  · simp

@[simp] theorem Video.detach_ports (v : Video) (st : StreamId) : (v.detach st).ports = v.ports := by
  unfold Video.detach
  refine (foldl_keeps Video.ports _ (fun v i => ?_) _ _).trans ?_
  · try dsimp only
    all_goals simp
  · simp

@[simp] theorem Video.detach_locks (v : Video) (st : StreamId) : (v.detach st).locks = v.locks := by
  unfold Video.detach
  refine (foldl_keeps Video.locks _ (fun v i => ?_) _ _).trans ?_
  · try dsimp only
    all_goals simp
  · simp


@[simp] theorem Video.giveUp_ingest (v : Video) (w : WindowId) : (v.giveUp w).ingest = v.ingest := by
  unfold Video.giveUp
  try dsimp only
  all_goals simp

@[simp] theorem Video.giveUp_locks (v : Video) (w : WindowId) : (v.giveUp w).locks = v.locks := by
  unfold Video.giveUp
  try dsimp only
  all_goals simp


@[simp] theorem Video.windowOff_ingest (v : Video) (w : WindowId) : (v.windowOff w).ingest = v.ingest := by
  unfold Video.windowOff
  try dsimp only
  all_goals simp

@[simp] theorem Video.windowOff_locks (v : Video) (w : WindowId) : (v.windowOff w).locks = v.locks := by
  unfold Video.windowOff
  try dsimp only
  all_goals simp


@[simp] theorem Video.latch_ingest (v : Video) (w : WindowId) (st : StreamId) (i : SlotId) : (v.latch w st i).ingest = v.ingest := by
  unfold Video.latch
  try dsimp only
  all_goals simp

@[simp] theorem Video.latch_ports (v : Video) (w : WindowId) (st : StreamId) (i : SlotId) : (v.latch w st i).ports = v.ports := by
  unfold Video.latch
  try dsimp only
  all_goals simp

@[simp] theorem Video.latch_locks (v : Video) (w : WindowId) (st : StreamId) (i : SlotId) : (v.latch w st i).locks = v.locks := by
  unfold Video.latch
  try dsimp only
  all_goals simp


@[simp] theorem Video.startChase_ingest (v : Video) (w : WindowId) (st : StreamId) (f : SlotId) : (v.startChase w st f).ingest = v.ingest := by
  unfold Video.startChase
  try dsimp only
  repeat' split
  all_goals simp

@[simp] theorem Video.startChase_ports (v : Video) (w : WindowId) (st : StreamId) (f : SlotId) : (v.startChase w st f).ports = v.ports := by
  unfold Video.startChase
  try dsimp only
  repeat' split
  all_goals simp

@[simp] theorem Video.startChase_locks (v : Video) (w : WindowId) (st : StreamId) (f : SlotId) : (v.startChase w st f).locks = v.locks := by
  unfold Video.startChase
  try dsimp only
  repeat' split
  all_goals simp


@[simp] theorem Video.noCandidate_ingest (v : Video) (w : WindowId) (st : StreamId) : (v.noCandidate w st).ingest = v.ingest := by
  unfold Video.noCandidate
  try dsimp only
  repeat' split
  all_goals simp

@[simp] theorem Video.noCandidate_ports (v : Video) (w : WindowId) (st : StreamId) : (v.noCandidate w st).ports = v.ports := by
  unfold Video.noCandidate
  try dsimp only
  repeat' split
  all_goals simp

@[simp] theorem Video.noCandidate_locks (v : Video) (w : WindowId) (st : StreamId) : (v.noCandidate w st).locks = v.locks := by
  unfold Video.noCandidate
  try dsimp only
  repeat' split
  all_goals simp


@[simp] theorem Video.pick_ingest (v : Video) (w : WindowId) (st : StreamId) : (v.pick w st).ingest = v.ingest := by
  unfold Video.pick
  try dsimp only
  repeat' split
  all_goals simp

@[simp] theorem Video.pick_ports (v : Video) (w : WindowId) (st : StreamId) : (v.pick w st).ports = v.ports := by
  unfold Video.pick
  try dsimp only
  repeat' split
  all_goals simp

@[simp] theorem Video.pick_locks (v : Video) (w : WindowId) (st : StreamId) : (v.pick w st).locks = v.locks := by
  unfold Video.pick
  try dsimp only
  repeat' split
  all_goals simp


@[simp] theorem Video.holdAndPick_ingest (v : Video) (w : WindowId) (st : StreamId) : (v.holdAndPick w st).ingest = v.ingest := by
  unfold Video.holdAndPick
  try dsimp only
  repeat' split
  all_goals simp

@[simp] theorem Video.holdAndPick_ports (v : Video) (w : WindowId) (st : StreamId) : (v.holdAndPick w st).ports = v.ports := by
  unfold Video.holdAndPick
  try dsimp only
  repeat' split
  all_goals simp

@[simp] theorem Video.holdAndPick_locks (v : Video) (w : WindowId) (st : StreamId) : (v.holdAndPick w st).locks = v.locks := by
  unfold Video.holdAndPick
  try dsimp only
  repeat' split
  all_goals simp


@[simp] theorem Video.closeOut_ingest (v : Video) (w : WindowId) (st : StreamId) : (v.closeOut w st).ingest = v.ingest := by
  unfold Video.closeOut
  try dsimp only
  repeat' split
  all_goals simp

@[simp] theorem Video.closeOut_ports (v : Video) (w : WindowId) (st : StreamId) : (v.closeOut w st).ports = v.ports := by
  unfold Video.closeOut
  try dsimp only
  repeat' split
  all_goals simp

@[simp] theorem Video.closeOut_locks (v : Video) (w : WindowId) (st : StreamId) : (v.closeOut w st).locks = v.locks := by
  unfold Video.closeOut
  try dsimp only
  repeat' split
  all_goals simp


@[simp] theorem Video.enterMismatch_ingest (v : Video) (w : WindowId) : (v.enterMismatch w).ingest = v.ingest := by
  unfold Video.enterMismatch
  try dsimp only
  all_goals simp

@[simp] theorem Video.enterMismatch_locks (v : Video) (w : WindowId) : (v.enterMismatch w).locks = v.locks := by
  unfold Video.enterMismatch
  try dsimp only
  all_goals simp


@[simp] theorem Video.windowFrameStart_ingest (v : Video) (w : WindowId) : (v.windowFrameStart w).ingest = v.ingest := by
  unfold Video.windowFrameStart
  try dsimp only
  repeat' split
  all_goals simp

@[simp] theorem Video.windowFrameStart_locks (v : Video) (w : WindowId) : (v.windowFrameStart w).locks = v.locks := by
  unfold Video.windowFrameStart
  try dsimp only
  repeat' split
  all_goals simp


@[simp] theorem Video.windowSteps_ingest (v : Video) (p : PortId) : (v.windowSteps p).ingest = v.ingest := by
  unfold Video.windowSteps
  refine (foldl_keeps Video.ingest _ (fun v i => ?_) _ _).trans ?_
  · try dsimp only
    all_goals simp
  · simp

@[simp] theorem Video.windowSteps_locks (v : Video) (p : PortId) : (v.windowSteps p).locks = v.locks := by
  unfold Video.windowSteps
  refine (foldl_keeps Video.locks _ (fun v i => ?_) _ _).trans ?_
  · try dsimp only
    all_goals simp
  · simp


@[simp] theorem Video.decideLayer_slots (v : Video) (p : PortId) (y : Nat) (l : Layer) : (v.decideLayer p y l).slots = v.slots := by
  unfold Video.decideLayer
  try dsimp only
  repeat' split
  all_goals simp

@[simp] theorem Video.decideLayer_streams (v : Video) (p : PortId) (y : Nat) (l : Layer) : (v.decideLayer p y l).streams = v.streams := by
  unfold Video.decideLayer
  try dsimp only
  repeat' split
  all_goals simp

@[simp] theorem Video.decideLayer_windows (v : Video) (p : PortId) (y : Nat) (l : Layer) : (v.decideLayer p y l).windows = v.windows := by
  unfold Video.decideLayer
  try dsimp only
  repeat' split
  all_goals simp

@[simp] theorem Video.decideLayer_ingest (v : Video) (p : PortId) (y : Nat) (l : Layer) : (v.decideLayer p y l).ingest = v.ingest := by
  unfold Video.decideLayer
  try dsimp only
  repeat' split
  all_goals simp

@[simp] theorem Video.decideLayer_locks (v : Video) (p : PortId) (y : Nat) (l : Layer) : (v.decideLayer p y l).locks = v.locks := by
  unfold Video.decideLayer
  try dsimp only
  repeat' split
  all_goals simp

@[simp] theorem Video.decideLayer_attn (v : Video) (p : PortId) (y : Nat) (l : Layer) : (v.decideLayer p y l).attn = v.attn := by
  unfold Video.decideLayer
  try dsimp only
  repeat' split
  all_goals simp


@[simp] theorem Video.pumpStep_slots (v : Video) (p : PortId) : (v.pumpStep p).slots = v.slots := by
  unfold Video.pumpStep
  try dsimp only
  repeat' split
  all_goals simp

@[simp] theorem Video.pumpStep_streams (v : Video) (p : PortId) : (v.pumpStep p).streams = v.streams := by
  unfold Video.pumpStep
  try dsimp only
  repeat' split
  all_goals simp

@[simp] theorem Video.pumpStep_windows (v : Video) (p : PortId) : (v.pumpStep p).windows = v.windows := by
  unfold Video.pumpStep
  try dsimp only
  repeat' split
  all_goals simp

@[simp] theorem Video.pumpStep_ingest (v : Video) (p : PortId) : (v.pumpStep p).ingest = v.ingest := by
  unfold Video.pumpStep
  try dsimp only
  repeat' split
  all_goals simp

@[simp] theorem Video.pumpStep_locks (v : Video) (p : PortId) : (v.pumpStep p).locks = v.locks := by
  unfold Video.pumpStep
  try dsimp only
  repeat' split
  all_goals simp

@[simp] theorem Video.pumpStep_attn (v : Video) (p : PortId) : (v.pumpStep p).attn = v.attn := by
  unfold Video.pumpStep
  try dsimp only
  repeat' split
  all_goals simp


@[simp] theorem Video.pumpFor_slots : ∀ (n : Nat) (v : Video) (p : PortId), (Video.pumpFor n v p).slots = v.slots
  | 0, _, _ => rfl
  | n + 1, v, p => by
    show (Video.pumpFor n (v.pumpStep p) p).slots = v.slots
    rw [Video.pumpFor_slots n, Video.pumpStep_slots]

@[simp] theorem Video.pump_slots (v : Video) (p : PortId) : (v.pump p).slots = v.slots := Video.pumpFor_slots 32 v p

@[simp] theorem Video.pumpFor_streams : ∀ (n : Nat) (v : Video) (p : PortId), (Video.pumpFor n v p).streams = v.streams
  | 0, _, _ => rfl
  | n + 1, v, p => by
    show (Video.pumpFor n (v.pumpStep p) p).streams = v.streams
    rw [Video.pumpFor_streams n, Video.pumpStep_streams]

@[simp] theorem Video.pump_streams (v : Video) (p : PortId) : (v.pump p).streams = v.streams := Video.pumpFor_streams 32 v p

@[simp] theorem Video.pumpFor_windows : ∀ (n : Nat) (v : Video) (p : PortId), (Video.pumpFor n v p).windows = v.windows
  | 0, _, _ => rfl
  | n + 1, v, p => by
    show (Video.pumpFor n (v.pumpStep p) p).windows = v.windows
    rw [Video.pumpFor_windows n, Video.pumpStep_windows]

@[simp] theorem Video.pump_windows (v : Video) (p : PortId) : (v.pump p).windows = v.windows := Video.pumpFor_windows 32 v p

@[simp] theorem Video.pumpFor_ingest : ∀ (n : Nat) (v : Video) (p : PortId), (Video.pumpFor n v p).ingest = v.ingest
  | 0, _, _ => rfl
  | n + 1, v, p => by
    show (Video.pumpFor n (v.pumpStep p) p).ingest = v.ingest
    rw [Video.pumpFor_ingest n, Video.pumpStep_ingest]

@[simp] theorem Video.pump_ingest (v : Video) (p : PortId) : (v.pump p).ingest = v.ingest := Video.pumpFor_ingest 32 v p

@[simp] theorem Video.pumpFor_locks : ∀ (n : Nat) (v : Video) (p : PortId), (Video.pumpFor n v p).locks = v.locks
  | 0, _, _ => rfl
  | n + 1, v, p => by
    show (Video.pumpFor n (v.pumpStep p) p).locks = v.locks
    rw [Video.pumpFor_locks n, Video.pumpStep_locks]

@[simp] theorem Video.pump_locks (v : Video) (p : PortId) : (v.pump p).locks = v.locks := Video.pumpFor_locks 32 v p

@[simp] theorem Video.pumpFor_attn : ∀ (n : Nat) (v : Video) (p : PortId), (Video.pumpFor n v p).attn = v.attn
  | 0, _, _ => rfl
  | n + 1, v, p => by
    show (Video.pumpFor n (v.pumpStep p) p).attn = v.attn
    rw [Video.pumpFor_attn n, Video.pumpStep_attn]

@[simp] theorem Video.pump_attn (v : Video) (p : PortId) : (v.pump p).attn = v.attn := Video.pumpFor_attn 32 v p


@[simp] theorem Video.reportUnderrun_slots (v : Video) (w : WindowId) : (v.reportUnderrun w).slots = v.slots := by
  unfold Video.reportUnderrun
  try dsimp only
  all_goals simp

@[simp] theorem Video.reportUnderrun_streams (v : Video) (w : WindowId) : (v.reportUnderrun w).streams = v.streams := by
  unfold Video.reportUnderrun
  try dsimp only
  all_goals simp

@[simp] theorem Video.reportUnderrun_ingest (v : Video) (w : WindowId) : (v.reportUnderrun w).ingest = v.ingest := by
  unfold Video.reportUnderrun
  try dsimp only
  all_goals simp

@[simp] theorem Video.reportUnderrun_ports (v : Video) (w : WindowId) : (v.reportUnderrun w).ports = v.ports := by
  unfold Video.reportUnderrun
  try dsimp only
  all_goals simp

@[simp] theorem Video.reportUnderrun_locks (v : Video) (w : WindowId) : (v.reportUnderrun w).locks = v.locks := by
  unfold Video.reportUnderrun
  try dsimp only
  all_goals simp


@[simp] theorem Video.reportUnderruns_slots (v : Video) (p : PortId) (line : List PixelPaint) : (v.reportUnderruns p line).slots = v.slots := by
  unfold Video.reportUnderruns
  refine (foldl_keeps Video.slots _ (fun v i => ?_) _ _).trans ?_
  · try dsimp only
    repeat' split
    all_goals simp
  · simp

@[simp] theorem Video.reportUnderruns_streams (v : Video) (p : PortId) (line : List PixelPaint) : (v.reportUnderruns p line).streams = v.streams := by
  unfold Video.reportUnderruns
  refine (foldl_keeps Video.streams _ (fun v i => ?_) _ _).trans ?_
  · try dsimp only
    repeat' split
    all_goals simp
  · simp

@[simp] theorem Video.reportUnderruns_ingest (v : Video) (p : PortId) (line : List PixelPaint) : (v.reportUnderruns p line).ingest = v.ingest := by
  unfold Video.reportUnderruns
  refine (foldl_keeps Video.ingest _ (fun v i => ?_) _ _).trans ?_
  · try dsimp only
    repeat' split
    all_goals simp
  · simp

@[simp] theorem Video.reportUnderruns_ports (v : Video) (p : PortId) (line : List PixelPaint) : (v.reportUnderruns p line).ports = v.ports := by
  unfold Video.reportUnderruns
  refine (foldl_keeps Video.ports _ (fun v i => ?_) _ _).trans ?_
  · try dsimp only
    repeat' split
    all_goals simp
  · simp

@[simp] theorem Video.reportUnderruns_locks (v : Video) (p : PortId) (line : List PixelPaint) : (v.reportUnderruns p line).locks = v.locks := by
  unfold Video.reportUnderruns
  refine (foldl_keeps Video.locks _ (fun v i => ?_) _ _).trans ?_
  · try dsimp only
    repeat' split
    all_goals simp
  · simp


@[simp] theorem Video.chaseFault_ingest (v : Video) (p : PortId) (l : Layer) : (v.chaseFault p l).ingest = v.ingest := by
  unfold Video.chaseFault
  try dsimp only
  all_goals simp

@[simp] theorem Video.chaseFault_locks (v : Video) (p : PortId) (l : Layer) : (v.chaseFault p l).locks = v.locks := by
  unfold Video.chaseFault
  try dsimp only
  all_goals simp


@[simp] theorem Video.emissionStart_ingest (v : Video) (p : PortId) (y : Nat) : (v.emissionStart p y).ingest = v.ingest := by
  unfold Video.emissionStart
  try dsimp only
  repeat' split
  all_goals simp

@[simp] theorem Video.emissionStart_locks (v : Video) (p : PortId) (y : Nat) : (v.emissionStart p y).locks = v.locks := by
  unfold Video.emissionStart
  try dsimp only
  repeat' split
  all_goals simp


@[simp] theorem Video.frameStart_ingest (v : Video) (p : PortId) : (v.frameStart p).ingest = v.ingest := by
  unfold Video.frameStart
  try dsimp only
  all_goals simp


@[simp] theorem Video.cut_ingest (v : Video) (p : PortId) : (v.cut p).ingest = v.ingest := by
  unfold Video.cut
  try dsimp only
  all_goals simp


@[simp] theorem Video.portLine_ingest (v : Video) (p : PortId) : (v.portLine p).ingest = v.ingest := by
  unfold Video.portLine
  try dsimp only
  repeat' split
  all_goals simp

@[simp] theorem Video.portLine_locks (v : Video) (p : PortId) : (v.portLine p).locks = v.locks := by
  unfold Video.portLine
  try dsimp only
  repeat' split
  all_goals simp


@[simp] theorem Video.lineStart_ingest (v : Video) (p : PortId) : (v.lineStart p).ingest = v.ingest := by
  unfold Video.lineStart
  try dsimp only
  repeat' split
  all_goals simp


@[simp] theorem Video.sampleAcquiring_ingest (v : Video) (p : PortId) (e : Int) : (v.sampleAcquiring p e).ingest = v.ingest := by
  unfold Video.sampleAcquiring
  try dsimp only
  repeat' split
  all_goals simp


@[simp] theorem Video.sampleLocked_slots (v : Video) (p : PortId) (e : Int) : (v.sampleLocked p e).slots = v.slots := by
  unfold Video.sampleLocked
  try dsimp only
  repeat' split
  all_goals simp

@[simp] theorem Video.sampleLocked_streams (v : Video) (p : PortId) (e : Int) : (v.sampleLocked p e).streams = v.streams := by
  unfold Video.sampleLocked
  try dsimp only
  repeat' split
  all_goals simp

@[simp] theorem Video.sampleLocked_windows (v : Video) (p : PortId) (e : Int) : (v.sampleLocked p e).windows = v.windows := by
  unfold Video.sampleLocked
  try dsimp only
  repeat' split
  all_goals simp

@[simp] theorem Video.sampleLocked_ingest (v : Video) (p : PortId) (e : Int) : (v.sampleLocked p e).ingest = v.ingest := by
  unfold Video.sampleLocked
  try dsimp only
  repeat' split
  all_goals simp


@[simp] theorem Video.sample_ingest (v : Video) (p : PortId) : (v.sample p).ingest = v.ingest := by
  unfold Video.sample
  try dsimp only
  repeat' split
  all_goals simp


@[simp] theorem Video.offerTo_ingest (v : Video) (st : StreamId) (p : PortId) : (v.offerTo st p).ingest = v.ingest := by
  unfold Video.offerTo
  try dsimp only
  repeat' split
  all_goals simp


@[simp] theorem Video.offerReference_ingest (v : Video) (st : StreamId) : (v.offerReference st).ingest = v.ingest := by
  unfold Video.offerReference
  refine (foldl_keeps Video.ingest _ (fun v i => ?_) _ _).trans ?_
  · try dsimp only
    all_goals simp
  · simp


@[simp] theorem Video.loseReference_slots (v : Video) (st : StreamId) : (v.loseReference st).slots = v.slots := by
  unfold Video.loseReference
  refine (foldl_keeps Video.slots _ (fun v i => ?_) _ _).trans ?_
  · try dsimp only
    repeat' split
    all_goals simp
  · simp

@[simp] theorem Video.loseReference_streams (v : Video) (st : StreamId) : (v.loseReference st).streams = v.streams := by
  unfold Video.loseReference
  refine (foldl_keeps Video.streams _ (fun v i => ?_) _ _).trans ?_
  · try dsimp only
    repeat' split
    all_goals simp
  · simp

@[simp] theorem Video.loseReference_windows (v : Video) (st : StreamId) : (v.loseReference st).windows = v.windows := by
  unfold Video.loseReference
  refine (foldl_keeps Video.windows _ (fun v i => ?_) _ _).trans ?_
  · try dsimp only
    repeat' split
    all_goals simp
  · simp

@[simp] theorem Video.loseReference_ingest (v : Video) (st : StreamId) : (v.loseReference st).ingest = v.ingest := by
  unfold Video.loseReference
  refine (foldl_keeps Video.ingest _ (fun v i => ?_) _ _).trans ?_
  · try dsimp only
    repeat' split
    all_goals simp
  · simp

@[simp] theorem Video.loseReference_attn (v : Video) (st : StreamId) : (v.loseReference st).attn = v.attn := by
  unfold Video.loseReference
  refine (foldl_keeps Video.attn _ (fun v i => ?_) _ _).trans ?_
  · try dsimp only
    repeat' split
    all_goals simp
  · simp


@[simp] theorem Video.leaveRunning_slots (v : Video) (st : StreamId) : (v.leaveRunning st).slots = v.slots := by
  unfold Video.leaveRunning
  try dsimp only
  repeat' split
  all_goals simp

@[simp] theorem Video.leaveRunning_streams (v : Video) (st : StreamId) : (v.leaveRunning st).streams = v.streams := by
  unfold Video.leaveRunning
  try dsimp only
  repeat' split
  all_goals simp

@[simp] theorem Video.leaveRunning_windows (v : Video) (st : StreamId) : (v.leaveRunning st).windows = v.windows := by
  unfold Video.leaveRunning
  try dsimp only
  repeat' split
  all_goals simp

@[simp] theorem Video.leaveRunning_ingest (v : Video) (st : StreamId) : (v.leaveRunning st).ingest = v.ingest := by
  unfold Video.leaveRunning
  try dsimp only
  repeat' split
  all_goals simp

@[simp] theorem Video.leaveRunning_attn (v : Video) (st : StreamId) : (v.leaveRunning st).attn = v.attn := by
  unfold Video.leaveRunning
  try dsimp only
  repeat' split
  all_goals simp


@[simp] theorem Video.endOfStop_slots (v : Video) (st : StreamId) : (v.endOfStop st).slots = v.slots := by
  unfold Video.endOfStop
  try dsimp only
  all_goals simp

@[simp] theorem Video.endOfStop_windows (v : Video) (st : StreamId) : (v.endOfStop st).windows = v.windows := by
  unfold Video.endOfStop
  try dsimp only
  all_goals simp

@[simp] theorem Video.endOfStop_ingest (v : Video) (st : StreamId) : (v.endOfStop st).ingest = v.ingest := by
  unfold Video.endOfStop
  try dsimp only
  all_goals simp

@[simp] theorem Video.endOfStop_ports (v : Video) (st : StreamId) : (v.endOfStop st).ports = v.ports := by
  unfold Video.endOfStop
  try dsimp only
  all_goals simp

@[simp] theorem Video.endOfStop_locks (v : Video) (st : StreamId) : (v.endOfStop st).locks = v.locks := by
  unfold Video.endOfStop
  try dsimp only
  all_goals simp

@[simp] theorem Video.endOfStop_attn (v : Video) (st : StreamId) : (v.endOfStop st).attn = v.attn := by
  unfold Video.endOfStop
  try dsimp only
  all_goals simp



/-- A fetcher that resumes changes its own port and nothing else. -/
theorem Video.resumeFrom_keeps {γ : Type} (g : Video → γ) (h : ∀ v p, g (Video.pump v p) = g v) (before v : Video) :
    g (Video.resumeFrom before v) = g v := by
  unfold Video.resumeFrom
  refine foldl_keeps g _ (fun v p => ?_) _ _
  split
  · exact h v p
  · rfl

@[simp] theorem Video.resumeFrom_slots (b v : Video) : (Video.resumeFrom b v).slots = v.slots :=
  Video.resumeFrom_keeps Video.slots Video.pump_slots b v

@[simp] theorem resuming_slots (g : Video → Video) (v : Video) : (resuming g v).slots = (g v).slots :=
  Video.resumeFrom_slots v (g v)

@[simp] theorem Video.resumeFrom_streams (b v : Video) : (Video.resumeFrom b v).streams = v.streams :=
  Video.resumeFrom_keeps Video.streams Video.pump_streams b v

@[simp] theorem resuming_streams (g : Video → Video) (v : Video) : (resuming g v).streams = (g v).streams :=
  Video.resumeFrom_streams v (g v)

@[simp] theorem Video.resumeFrom_windows (b v : Video) : (Video.resumeFrom b v).windows = v.windows :=
  Video.resumeFrom_keeps Video.windows Video.pump_windows b v

@[simp] theorem resuming_windows (g : Video → Video) (v : Video) : (resuming g v).windows = (g v).windows :=
  Video.resumeFrom_windows v (g v)

@[simp] theorem Video.resumeFrom_ingest (b v : Video) : (Video.resumeFrom b v).ingest = v.ingest :=
  Video.resumeFrom_keeps Video.ingest Video.pump_ingest b v

@[simp] theorem resuming_ingest (g : Video → Video) (v : Video) : (resuming g v).ingest = (g v).ingest :=
  Video.resumeFrom_ingest v (g v)

@[simp] theorem Video.resumeFrom_locks (b v : Video) : (Video.resumeFrom b v).locks = v.locks :=
  Video.resumeFrom_keeps Video.locks Video.pump_locks b v

@[simp] theorem resuming_locks (g : Video → Video) (v : Video) : (resuming g v).locks = (g v).locks :=
  Video.resumeFrom_locks v (g v)

@[simp] theorem Video.resumeFrom_attn (b v : Video) : (Video.resumeFrom b v).attn = v.attn :=
  Video.resumeFrom_keeps Video.attn Video.pump_attn b v

@[simp] theorem resuming_attn (g : Video → Video) (v : Video) : (resuming g v).attn = (g v).attn :=
  Video.resumeFrom_attn v (g v)

end Sys2Proof.Machine
end

