-- ==== Sys2Proof/Laws/Link.lean ====
section
/-! SUPPORT. Taking a command: what a host command can never touch, and what taking it at once comes to (R173). -/

namespace Sys2Proof.Machine

/-- The state a command leaves, answered or held. -/
def Answer.state : Answer → State
  | .done s _ _ => s
  | .long s => s

@[simp] theorem Answer.state_done (s : State) (st : Status) (p : List Byte) : (Answer.done s st p).state = s := rfl
@[simp] theorem Answer.state_long (s : State) : (Answer.long s).state = s := rfl
@[simp] theorem refuse_state (s : State) (st : Status) : (refuse s st).state = s := rfl
@[simp] theorem answerOk_state (s : State) (p : List Byte) : (answerOk s p).state = s := rfl

/-- A host command writes neither the link record, nor frame memory, nor the model's own fields. -/
structure Untouched (s t : State) : Prop where
  link : t.link = s.link
  mem : t.mem = s.mem
  freeCount : t.freeCount = s.freeCount
  pending : t.pending = s.pending

theorem Untouched.refl (s : State) : Untouched s s := ⟨rfl, rfl, rfl, rfl⟩

theorem untouched_modVideo (s : State) (f : Video → Video) : Untouched s (s.modVideo f) := ⟨rfl, rfl, rfl, rfl⟩
theorem untouched_withVideo (s : State) (v : Video) : Untouched s (s.withVideo v) := ⟨rfl, rfl, rfl, rfl⟩
theorem untouched_modHost (s : State) (f : HostUnit → HostUnit) : Untouched s (s.modHost f) := ⟨rfl, rfl, rfl, rfl⟩
theorem untouched_modChannel (s : State) (f : Channel → Channel) : Untouched s (s.modChannel f) :=
  ⟨rfl, rfl, rfl, rfl⟩

theorem untouched_softReset (s : State) : Untouched s s.softReset := ⟨rfl, rfl, rfl, rfl⟩

theorem cmdSlotBase_untouched (slot : Byte) (base : BitVec 16) (s : State) : Untouched s (cmdSlotBase slot base s).state := by
  unfold cmdSlotBase
  try dsimp only
  repeat' split
  all_goals try rw [answerOk_state]
  all_goals first
    | exact untouched_modVideo s _
    | exact untouched_withVideo s _

theorem cmdSlotQuery_untouched (slot : Byte) (s : State) : Untouched s (cmdSlotQuery slot s).state := by
  unfold cmdSlotQuery
  try dsimp only
  repeat' split
  all_goals try rw [answerOk_state]
  all_goals first
    | exact untouched_modVideo s _
    | exact untouched_withVideo s _

theorem pinSlot_untouched (i : SlotId) (s : State) : Untouched s (pinSlot i s).state := by
  unfold pinSlot
  try dsimp only
  repeat' split
  all_goals try rw [answerOk_state]
  all_goals first
    | exact untouched_modVideo s _
    | exact untouched_withVideo s _

theorem pinNewest_untouched (arg : Byte) (s : State) : Untouched s (pinNewest arg s).state := by
  unfold pinNewest
  try dsimp only
  repeat' split
  all_goals first
    | exact ⟨rfl, rfl, rfl, rfl⟩
    | apply pinSlot_untouched

theorem pinSequence_untouched (arg : Byte) (seq : BitVec 32) (s : State) : Untouched s (pinSequence arg seq s).state := by
  unfold pinSequence
  try dsimp only
  repeat' split
  all_goals first
    | exact ⟨rfl, rfl, rfl, rfl⟩
    | apply pinSlot_untouched

theorem pinWindow_untouched (arg : Byte) (s : State) : Untouched s (pinWindow arg s).state := by
  unfold pinWindow
  try dsimp only
  repeat' split
  all_goals first
    | exact ⟨rfl, rfl, rfl, rfl⟩
    | apply pinSlot_untouched

theorem cmdPin_untouched (selector arg : Byte) (seq : BitVec 32) (s : State) : Untouched s (cmdPin selector arg seq s).state := by
  unfold cmdPin
  try dsimp only
  repeat' split
  all_goals first
    | exact ⟨rfl, rfl, rfl, rfl⟩
    | apply pinNewest_untouched
    | apply pinSequence_untouched
    | apply pinWindow_untouched

theorem cmdUnpin_untouched (slot : Byte) (s : State) : Untouched s (cmdUnpin slot s).state := by
  unfold cmdUnpin
  try dsimp only
  repeat' split
  all_goals try rw [answerOk_state]
  all_goals first
    | exact untouched_modVideo s _
    | exact untouched_withVideo s _

/-- An `if` between a refusal and something harmless is harmless. -/
theorem untouched_ite (c : Prop) [Decidable c] (s : State) (st : Status) (a : Answer) (h : Untouched s a.state) :
    Untouched s (if c then refuse s st else a).state := by
  split
  · exact ⟨rfl, rfl, rfl, rfl⟩
  · exact h

theorem cmdStreamOpen_untouched (stream source bpp : Byte) (width height pitch : BitVec 16) (delivery mask : Byte)
    (pool : List Byte) (s : State) :
    Untouched s (cmdStreamOpen stream source bpp width height pitch delivery mask pool s).state := by
  unfold cmdStreamOpen
  cases streamOf stream with
  | none => exact ⟨rfl, rfl, rfl, rfl⟩
  | some st =>
    refine untouched_ite _ _ _ _ ?_
    cases sourceOf source with
    | none => exact ⟨rfl, rfl, rfl, rfl⟩
    | some src =>
      refine untouched_ite _ _ _ _ (untouched_ite _ _ _ _ ?_)
      cases deliveryOf delivery with
      | none => exact ⟨rfl, rfl, rfl, rfl⟩
      | some d =>
        dsimp only
        refine untouched_ite _ _ _ _ ?_
        refine untouched_ite _ _ _ _ ?_
        refine untouched_ite _ _ _ _ ?_
        refine untouched_ite _ _ _ _ ?_
        refine untouched_ite _ _ _ _ ?_
        rw [answerOk_state]
        exact untouched_modVideo s _

theorem cmdStreamStart_untouched (stream : Byte) (s : State) : Untouched s (cmdStreamStart stream s).state := by
  unfold cmdStreamStart
  try dsimp only
  repeat' split
  all_goals try rw [answerOk_state]
  all_goals first
    | exact untouched_modVideo s _
    | exact untouched_withVideo s _

theorem cmdStopAfterFrame_untouched (stream : Byte) (s : State) : Untouched s (cmdStopAfterFrame stream s).state := by
  unfold cmdStopAfterFrame
  try dsimp only
  repeat' split
  all_goals try rw [answerOk_state]
  all_goals first
    | exact untouched_modVideo s _
    | exact untouched_withVideo s _

theorem cmdStopNow_untouched (stream : Byte) (s : State) : Untouched s (cmdStopNow stream s).state := by
  unfold cmdStopNow
  try dsimp only
  repeat' split
  all_goals try rw [answerOk_state]
  all_goals first
    | exact untouched_modVideo s _
    | exact untouched_withVideo s _

theorem cmdStreamStop_untouched (stream mode : Byte) (s : State) : Untouched s (cmdStreamStop stream mode s).state := by
  unfold cmdStreamStop
  try dsimp only
  repeat' split
  all_goals first
    | exact ⟨rfl, rfl, rfl, rfl⟩
    | apply cmdStopAfterFrame_untouched
    | apply cmdStopNow_untouched

theorem cmdStreamClose_untouched (stream : Byte) (s : State) : Untouched s (cmdStreamClose stream s).state := by
  unfold cmdStreamClose
  try dsimp only
  repeat' split
  all_goals try rw [answerOk_state]
  all_goals first
    | exact untouched_modVideo s _
    | exact untouched_withVideo s _

theorem cmdPoolGrow_untouched (stream slot : Byte) (s : State) : Untouched s (cmdPoolGrow stream slot s).state := by
  unfold cmdPoolGrow
  try dsimp only
  repeat' split
  all_goals try rw [answerOk_state]
  all_goals first
    | exact untouched_modVideo s _
    | exact untouched_withVideo s _

theorem cmdPoolShrink_untouched (stream slot : Byte) (s : State) : Untouched s (cmdPoolShrink stream slot s).state := by
  unfold cmdPoolShrink
  try dsimp only
  repeat' split
  all_goals try rw [answerOk_state]
  all_goals first
    | exact untouched_modVideo s _
    | exact untouched_withVideo s _

theorem cmdStreamQuery_untouched (stream option : Byte) (s : State) : Untouched s (cmdStreamQuery stream option s).state := by
  unfold cmdStreamQuery
  try dsimp only
  repeat' split
  all_goals try rw [answerOk_state]
  all_goals first
    | exact untouched_modVideo s _
    | exact untouched_withVideo s _

theorem cmdWindowSet_untouched (window stream : Byte) (x0 y0 w h dx dy : BitVec 16) (hrep vrep guard : Byte) (s : State) : Untouched s (cmdWindowSet window stream x0 y0 w h dx dy hrep vrep guard s).state := by
  unfold cmdWindowSet
  try dsimp only
  repeat' split
  all_goals try rw [answerOk_state]
  all_goals first
    | exact untouched_modVideo s _
    | exact untouched_withVideo s _

theorem cmdCadenceSet_untouched (window : Byte) (counts : List Byte) (s : State) : Untouched s (cmdCadenceSet window counts s).state := by
  unfold cmdCadenceSet
  try dsimp only
  repeat' split
  all_goals try rw [answerOk_state]
  all_goals first
    | exact untouched_modVideo s _
    | exact untouched_withVideo s _

theorem cmdWindowClear_untouched (window : Byte) (s : State) : Untouched s (cmdWindowClear window s).state := by
  unfold cmdWindowClear
  try dsimp only
  repeat' split
  all_goals try rw [answerOk_state]
  all_goals first
    | exact untouched_modVideo s _
    | exact untouched_withVideo s _

theorem cmdWindowQuery_untouched (window option : Byte) (s : State) : Untouched s (cmdWindowQuery window option s).state := by
  unfold cmdWindowQuery
  try dsimp only
  repeat' split
  all_goals try rw [answerOk_state]
  all_goals first
    | exact untouched_modVideo s _
    | exact untouched_withVideo s _

theorem cmdIngestSet_untouched (port lossTimeout normalMark urgentMark : Byte) (s : State) : Untouched s (cmdIngestSet port lossTimeout normalMark urgentMark s).state := by
  unfold cmdIngestSet
  try dsimp only
  repeat' split
  all_goals try rw [answerOk_state]
  all_goals first
    | exact untouched_modVideo s _
    | exact untouched_withVideo s _

theorem cmdIngestQuery_untouched (port option : Byte) (s : State) : Untouched s (cmdIngestQuery port option s).state := by
  unfold cmdIngestQuery
  try dsimp only
  repeat' split
  all_goals try rw [answerOk_state]
  all_goals first
    | exact untouched_modVideo s _
    | exact untouched_withVideo s _

theorem cmdPortSet_untouched (port bpp : Byte) (activeWidth activeLines : BitVec 16) (topBlank : Byte) (totalLines lineLength : BitVec 16) (border underrun : BitVec 32) (urgentLead : Byte) (s : State) : Untouched s (cmdPortSet port bpp activeWidth activeLines topBlank totalLines lineLength border underrun urgentLead s).state := by
  unfold cmdPortSet
  try dsimp only
  repeat' split
  all_goals try rw [answerOk_state]
  all_goals first
    | exact untouched_modVideo s _
    | exact untouched_withVideo s _

theorem cmdPortOn_untouched (port : Byte) (s : State) : Untouched s (cmdPortOn port s).state := by
  unfold cmdPortOn
  try dsimp only
  repeat' split
  all_goals try rw [answerOk_state]
  all_goals first
    | exact untouched_modVideo s _
    | exact untouched_withVideo s _

theorem cmdPortOff_untouched (port : Byte) (s : State) : Untouched s (cmdPortOff port s).state := by
  unfold cmdPortOff
  try dsimp only
  repeat' split
  all_goals try rw [answerOk_state]
  all_goals first
    | exact untouched_modVideo s _
    | exact untouched_withVideo s _

theorem cmdPortQuery_untouched (port option : Byte) (s : State) : Untouched s (cmdPortQuery port option s).state := by
  unfold cmdPortQuery
  try dsimp only
  repeat' split
  all_goals try rw [answerOk_state]
  all_goals first
    | exact untouched_modVideo s _
    | exact untouched_withVideo s _

theorem cmdLockSet_untouched (port stream n w d : Byte) (s : State) : Untouched s (cmdLockSet port stream n w d s).state := by
  unfold cmdLockSet
  try dsimp only
  repeat' split
  all_goals try rw [answerOk_state]
  all_goals first
    | exact untouched_modVideo s _
    | exact untouched_withVideo s _

theorem cmdLockClear_untouched (port : Byte) (s : State) : Untouched s (cmdLockClear port s).state := by
  unfold cmdLockClear
  try dsimp only
  repeat' split
  all_goals try rw [answerOk_state]
  all_goals first
    | exact untouched_modVideo s _
    | exact untouched_withVideo s _

theorem cmdMemoryQuery_untouched (option : Byte) (s : State) : Untouched s (cmdMemoryQuery option s).state := by
  unfold cmdMemoryQuery
  try dsimp only
  repeat' split
  all_goals try rw [answerOk_state]
  all_goals first
    | exact untouched_modVideo s _
    | exact untouched_withVideo s _
    | exact untouched_modHost s _
    | exact ⟨rfl, rfl, rfl, rfl⟩

theorem cmdFrameBegin_untouched (stream : Byte) (s : State) : Untouched s (cmdFrameBegin stream s).state := by
  unfold cmdFrameBegin
  try dsimp only
  repeat' split
  all_goals try rw [answerOk_state]
  all_goals first
    | exact untouched_modVideo s _
    | exact untouched_withVideo s _

theorem cmdSpanWrite_untouched (stream : Byte) (line offset length : BitVec 16) (data : List Byte) (s : State) : Untouched s (cmdSpanWrite stream line offset length data s).state := by
  unfold cmdSpanWrite
  try dsimp only
  repeat' split
  all_goals first
    | exact untouched_modVideo s _
    | exact untouched_withVideo s _
    | exact untouched_modHost s _
    | exact ⟨rfl, rfl, rfl, rfl⟩

theorem cmdFramePublish_untouched (stream : Byte) (s : State) : Untouched s (cmdFramePublish stream s).state := by
  unfold cmdFramePublish
  try dsimp only
  repeat' split
  all_goals try rw [answerOk_state]
  all_goals first
    | exact untouched_modVideo s _
    | exact untouched_withVideo s _

theorem cmdFrameAbandon_untouched (stream : Byte) (s : State) : Untouched s (cmdFrameAbandon stream s).state := by
  unfold cmdFrameAbandon
  try dsimp only
  repeat' split
  all_goals try rw [answerOk_state]
  all_goals first
    | exact untouched_modVideo s _
    | exact untouched_withVideo s _

theorem cmdSpanRead_untouched (slot : Byte) (line offset length : BitVec 16) (s : State) : Untouched s (cmdSpanRead slot line offset length s).state := by
  unfold cmdSpanRead
  try dsimp only
  repeat' split
  all_goals first
    | exact untouched_modVideo s _
    | exact untouched_withVideo s _
    | exact untouched_modHost s _
    | exact ⟨rfl, rfl, rfl, rfl⟩

theorem cmdAttnRead_untouched (s : State) : Untouched s (cmdAttnRead s).state := by
  unfold cmdAttnRead
  try dsimp only
  all_goals try rw [answerOk_state]
  all_goals first
    | exact untouched_modVideo s _
    | exact untouched_withVideo s _

theorem cmdAttnClear_untouched (entry causes : Byte) (s : State) : Untouched s (cmdAttnClear entry causes s).state := by
  unfold cmdAttnClear
  try dsimp only
  repeat' split
  all_goals try rw [answerOk_state]
  all_goals first
    | exact untouched_modVideo s _
    | exact untouched_withVideo s _

theorem cmdAttnMask_untouched (entry causes : Byte) (s : State) : Untouched s (cmdAttnMask entry causes s).state := by
  unfold cmdAttnMask
  try dsimp only
  repeat' split
  all_goals try rw [answerOk_state]
  all_goals first
    | exact untouched_modVideo s _
    | exact untouched_withVideo s _

theorem cmdNop_untouched (payload : List Byte) (s : State) : Untouched s (cmdNop payload s).state := by
  unfold cmdNop
  try dsimp only
  all_goals try rw [answerOk_state]
  all_goals first
    | exact untouched_modVideo s _
    | exact untouched_withVideo s _

theorem cmdReset_untouched (s : State) : Untouched s (cmdReset s).state := by
  unfold cmdReset
  try dsimp only
  repeat' split
  all_goals try rw [answerOk_state]
  all_goals first
    | exact untouched_modVideo s _
    | exact untouched_withVideo s _
    | exact untouched_modHost s _
    | exact ⟨rfl, rfl, rfl, rfl⟩

theorem runCmd_untouched (c : HostCmd) (s : State) : Untouched s (runCmd c s).state := by
  cases c
  · apply cmdSlotBase_untouched
  · apply cmdSlotQuery_untouched
  · apply cmdPin_untouched
  · apply cmdUnpin_untouched
  · apply cmdStreamOpen_untouched
  · apply cmdStreamStart_untouched
  · apply cmdStreamStop_untouched
  · apply cmdStreamClose_untouched
  · apply cmdPoolGrow_untouched
  · apply cmdPoolShrink_untouched
  · apply cmdStreamQuery_untouched
  · apply cmdWindowSet_untouched
  · apply cmdCadenceSet_untouched
  · apply cmdWindowClear_untouched
  · apply cmdWindowQuery_untouched
  · apply cmdIngestSet_untouched
  · apply cmdIngestQuery_untouched
  · apply cmdPortSet_untouched
  · apply cmdPortOn_untouched
  · apply cmdPortOff_untouched
  · apply cmdPortQuery_untouched
  · apply cmdLockSet_untouched
  · apply cmdLockClear_untouched
  · apply cmdMemoryQuery_untouched
  · apply cmdFrameBegin_untouched
  · apply cmdSpanWrite_untouched
  · apply cmdFramePublish_untouched
  · apply cmdFrameAbandon_untouched
  · apply cmdSpanRead_untouched
  · apply cmdAttnRead_untouched
  · apply cmdAttnClear_untouched
  · apply cmdAttnMask_untouched
  · apply cmdNop_untouched
  · apply cmdReset_untouched

@[simp] theorem finishTake_done (e : CmdEntry) (s : State) (st : Status) (p : List Byte) :
    finishTake e (.done s st p) = s.respond e.tag e.code st p := rfl

@[simp] theorem finishTake_long (e : CmdEntry) (s : State) :
    finishTake e (.long s) = s.modLink fun l => { l with executing := some e } := rfl

@[simp] theorem finishTake_refuse (e : CmdEntry) (s : State) (st : Status) :
    finishTake e (refuse s st) = s.respond e.tag e.code st [] := rfl

@[simp] theorem finishTake_answerOk (e : CmdEntry) (s : State) (p : List Byte) :
    finishTake e (answerOk s p) = s.respond e.tag e.code .ok p := rfl

/-- The first row of a refusal table matches. -/
theorem Refuses.here {row : Prop} {status : Status} {rows : List (Prop × Status)} (h : row) :
    Refuses ((row, status) :: rows) status := .inl ⟨h, rfl⟩

/-- The first row of a refusal table does not match. -/
theorem Refuses.next {row : Prop} {status answer : Status} {rows : List (Prop × Status)} (h : ¬ row)
    (r : Refuses rows answer) : Refuses ((row, status) :: rows) answer := .inr ⟨h, r⟩

/-- What a refusal table can say: its first row matches, or a later one does. -/
theorem refuses_cons {row : Prop} {status answer : Status} {rows : List (Prop × Status)} :
    Refuses ((row, status) :: rows) answer ↔ row ∧ answer = status ∨ ¬ row ∧ Refuses rows answer := Iff.rfl

@[simp] theorem refuses_nil (answer : Status) : ¬ Refuses [] answer := id

theorem LinkFree.mayTake {s : State} (h : LinkFree s) : s.link.mayTake = true := by
  simp [Link.mayTake, Config.queueDepth, h.executing, h.responses]

/-- A command that fits a frame and finds the link free is taken at once. -/
theorem State.command_free {s : State} (h : LinkFree s) (tag : Byte) (c : HostCmd)
    (hc : c.payload.length ≤ Config.maxPayload) : s.command tag c = finishTake (c.entry tag) (runCmd c s) := by
  simp [State.command, h.mayTake, h.commands, Nat.not_lt.mpr hc]

/-- A command that finds the link free and is done is answered in the happening: the record changes are its own. -/
theorem State.command_done {s : State} (h : LinkFree s) (tag : Byte) (c : HostCmd) {s' : State} {st : Status}
    {p : List Byte} (hc : c.payload.length ≤ Config.maxPayload) (hr : runCmd c s = .done s' st p) :
    s.command tag c = { s' with link := s'.link.answered tag c.code st p } := by
  rw [State.command_free h tag c hc, hr]; rfl

/-- A command that finds the link free and is long is held as the executing command. -/
theorem State.command_held {s : State} (h : LinkFree s) (tag : Byte) (c : HostCmd) {s' : State}
    (hc : c.payload.length ≤ Config.maxPayload) (hr : runCmd c s = .long s') :
    s.command tag c = { s' with link := { s'.link with executing := some (c.entry tag) } } := by
  rw [State.command_free h tag c hc, hr]; rfl

/-- The same command as a frame: acceptance and taking come to the same. -/
theorem State.accept_free {s : State} (h : LinkFree s) (e : CmdEntry) : s.accept e = takeEntry e s := by
  have h1 : ¬ Config.queueDepth ≤ s.link.commands.length := by simp [h.commands, Config.queueDepth]
  have h2 : (s.modLink fun l => { l with commands := l.commands ++ [e] }).link.mayTake = true := h.mayTake
  have h3 : ((s.modLink fun l => { l with commands := l.commands ++ [e] }).modLink
      fun l => { l with commands := [] }) = s := by
    have := h.commands
    cases s; simp only [State.modLink] at *; congr; rename_i link _ _ _; cases link; simp_all
  simp only [State.accept, if_neg h1, State.settle]
  rw [show (s.modLink fun l => { l with commands := l.commands ++ [e] }).link.commands = [e] by simp [h.commands]]
  simp only [List.length_singleton, settleFor, h2, if_true]
  rw [show (s.modLink fun l => { l with commands := l.commands ++ [e] }).link.commands = [e] by simp [h.commands]]
  simp [h3]

/-- Nothing waits: there is nothing to take. -/
theorem State.settle_nil {s : State} (h : s.link.commands = []) : s.settle = s := by
  simp [State.settle, h, settleFor]

@[simp] theorem State.takeWaiting_nil (s : State) : s.takeWaiting [] = s := rfl

/-- Nothing is taken while a command executes or eight responses are queued. -/
theorem State.takeWaiting_blocked {s : State} (h : s.link.executing ≠ none ∨ 8 ≤ s.link.responses.length)
    (e : CmdEntry) (more : List CmdEntry) :
    s.takeWaiting (e :: more) = { s with link := { s.link with commands := e :: more } } := if_pos h

/-- A purged command is answered, and the next one may be taken. -/
theorem State.takeWaiting_purged {s : State} {e : CmdEntry} (he : s.link.executing = none)
    (hr : s.link.responses.length < 8) (hp : e.purged = true) (more : List CmdEntry) :
    s.takeWaiting (e :: more) = State.takeWaiting { s with link := s.link.answered e.tag e.code .purged [] } more := by
  have h : ¬(s.link.executing ≠ none ∨ 8 ≤ s.link.responses.length) := by simp [he, Nat.not_le.mpr hr]
  rw [State.takeWaiting, if_neg h, if_pos hp]

end Sys2Proof.Machine
end

