-- ==== Sys2Proof/Laws/Memory.lean ====
section
/-! SUPPORT. Frame memory: a read after a write, and the canonical form that every memory operation keeps (R138). -/

namespace Sys2Proof.Machine

/-! ## Reading after writing -/

@[simp] theorem memRead_nil (a : Nat) : memRead [] a = Config.unlistedByte := rfl

/-- The cell in front decides its own address; every other address reads the rest. -/
theorem memRead_memCons (a : Nat) (x : Byte) (m : List Host.Cell) (h : memRead m a = Config.unlistedByte) (b : Nat) :
    memRead (memCons a x m) b = if b = a then x else memRead m b := by
  unfold memCons
  by_cases hx : x = Config.unlistedByte
  · rw [if_pos hx]
    by_cases hb : b = a
    · rw [if_pos hb, hb, h, hx]
    · rw [if_neg hb]
  · rw [if_neg hx]; rfl

/-- An address below every listed one reads as an unlisted byte. -/
theorem memRead_below : ∀ (m : List Host.Cell) (low a : Nat), Memory.wfFrom low m = true → a < low →
    memRead m a = Config.unlistedByte
  | [], _, _, _, _ => rfl
  | (b, x) :: m, low, a, h, ha => by
    simp only [Memory.wfFrom, Bool.and_eq_true, decide_eq_true_eq] at h
    have hb : a ≠ b := by omega
    simp only [memRead, if_neg hb]
    exact memRead_below m (b + 1) a h.2 (by omega)

theorem Memory.wfFrom_mono : ∀ (m : List Host.Cell) {low low' : Nat}, Memory.wfFrom low m = true → low' ≤ low →
    Memory.wfFrom low' m = true
  | [], _, _, _, _ => rfl
  | (a, x) :: m, low, low', h, hl => by
    simp only [Memory.wfFrom, Bool.and_eq_true, decide_eq_true_eq] at h ⊢
    exact ⟨⟨by omega, h.1.2⟩, h.2⟩

theorem Memory.wfFrom_memCons (a : Nat) (x : Byte) (m : List Host.Cell) {low : Nat} (hl : low ≤ a)
    (h : Memory.wfFrom (a + 1) m = true) : Memory.wfFrom low (memCons a x m) = true := by
  unfold memCons
  split
  · exact Memory.wfFrom_mono m h (by omega)
  · rename_i hx
    simp only [Memory.wfFrom, Bool.and_eq_true, decide_eq_true_eq, bne_iff_ne]
    exact ⟨⟨hl, hx⟩, h⟩

/-- A write in canonical form: the byte written reads back, every other byte reads as before. -/
theorem memRead_memWrite_from : ∀ (m : List Host.Cell) (low a : Nat) (x : Byte) (b : Nat),
    Memory.wfFrom low m = true → memRead (memWrite m a x) b = if b = a then x else memRead m b
  | [], low, a, x, b, _ => memRead_memCons a x [] rfl b
  | (c, y) :: m, low, a, x, b, h => by
    simp only [Memory.wfFrom, Bool.and_eq_true, decide_eq_true_eq] at h
    unfold memWrite
    split
    · rename_i hac
      refine memRead_memCons a x _ ?_ b
      simp only [memRead, if_neg (by omega : a ≠ c)]
      exact memRead_below m (c + 1) a h.2 (by omega)
    · split
      · rename_i _ hac
        subst hac
        rw [memRead_memCons a x m (memRead_below m (a + 1) a h.2 (by omega)) b]
        by_cases hb : b = a
        · simp [hb]
        · simp [hb, memRead]
      · rename_i hlt hne
        simp only [memRead]
        rw [memRead_memWrite_from m (c + 1) a x b h.2]
        by_cases hbc : b = c
        · have : b ≠ a := by omega
          simp [hbc, show c ≠ a by omega]
        · simp [hbc]

/-- A write keeps the canonical form. -/
theorem Memory.wfFrom_memWrite : ∀ (m : List Host.Cell) (low a : Nat) (x : Byte), low ≤ a →
    Memory.wfFrom low m = true → Memory.wfFrom low (memWrite m a x) = true
  | [], low, a, x, hl, _ => Memory.wfFrom_memCons a x [] hl rfl
  | (c, y) :: m, low, a, x, hl, h => by
    simp only [Memory.wfFrom, Bool.and_eq_true, decide_eq_true_eq] at h
    unfold memWrite
    split
    · rename_i hac
      refine Memory.wfFrom_memCons a x _ hl ?_
      simp only [Memory.wfFrom, Bool.and_eq_true, decide_eq_true_eq]
      exact ⟨⟨by omega, h.1.2⟩, h.2⟩
    · split
      · rename_i _ hac
        subst hac
        exact Memory.wfFrom_memCons a x m hl h.2
      · simp only [Memory.wfFrom, Bool.and_eq_true, decide_eq_true_eq]
        exact ⟨h.1, Memory.wfFrom_memWrite m (c + 1) a x (by omega) h.2⟩

theorem memRead_memWrite (m : List Host.Cell) (a : Nat) (x : Byte) (b : Nat) (h : Memory.wf m = true) :
    memRead (memWrite m a x) b = if b = a then x else memRead m b := memRead_memWrite_from m 0 a x b h

theorem memRead_memWrite_same (m : List Host.Cell) (a : Nat) (x : Byte) (h : Memory.wf m = true) :
    memRead (memWrite m a x) a = x := by rw [memRead_memWrite m a x a h, if_pos rfl]

theorem memRead_memWrite_ne (m : List Host.Cell) {a b : Nat} (x : Byte) (h : Memory.wf m = true) (hb : b ≠ a) :
    memRead (memWrite m a x) b = memRead m b := by rw [memRead_memWrite m a x b h, if_neg hb]

theorem Memory.wf_memWrite (m : List Host.Cell) (a : Nat) (x : Byte) (h : Memory.wf m = true) :
    Memory.wf (memWrite m a x) = true := Memory.wfFrom_memWrite m 0 a x (Nat.zero_le a) h

/-! ## Consecutive bytes and bursts -/

theorem Memory.wf_memWriteAll : ∀ (xs : List Byte) (m : List Host.Cell) (a : Nat), Memory.wf m = true →
    Memory.wf (memWriteAll m a xs) = true
  | [], _, _, h => h
  | x :: xs, m, a, h => Memory.wf_memWriteAll xs (memWrite m a x) (a + 1) (Memory.wf_memWrite m a x h)

/-- What every byte reads as after consecutive bytes are written. -/
theorem memRead_memWriteAll : ∀ (xs : List Byte) (m : List Host.Cell) (a b : Nat), Memory.wf m = true →
    memRead (memWriteAll m a xs) b = if a ≤ b ∧ b < a + xs.length then xs.getD (b - a) 0 else memRead m b
  | [], m, a, b, _ => by
    rw [if_neg (by simp only [List.length_nil]; omega)]; rfl
  | x :: xs, m, a, b, h => by
    rw [show memWriteAll m a (x :: xs) = memWriteAll (memWrite m a x) (a + 1) xs from rfl,
      memRead_memWriteAll xs _ (a + 1) b (Memory.wf_memWrite m a x h), memRead_memWrite m a x b h]
    simp only [List.length_cons]
    by_cases hb : b = a
    · subst hb
      rw [if_neg (by omega), if_pos rfl, if_pos (by omega), Nat.sub_self]; rfl
    · by_cases h1 : a + 1 ≤ b ∧ b < a + 1 + xs.length
      · rw [if_pos h1, if_pos (by omega), show b - a = (b - (a + 1)) + 1 by omega]; rfl
      · rw [if_neg h1, if_neg hb, if_neg (by omega)]

theorem Memory.wf_memWriteBurst (m : List Host.Cell) (a : Nat) (d : Burst) (h : Memory.wf m = true) :
    Memory.wf (memWriteBurst m a d) = true := Memory.wf_memWriteAll d.toList m a h

/-- R138: a write replaces the 64 bytes of its burst, and every other byte reads as before. -/
theorem memRead_memWriteBurst (m : List Host.Cell) (a b : Nat) (d : Burst) (h : Memory.wf m = true) :
    memRead (memWriteBurst m a d) b = if a ≤ b ∧ b < a + 64 then d.toList.getD (b - a) 0 else memRead m b := by
  have := memRead_memWriteAll d.toList m a b h
  simpa [memWriteBurst] using this

/-- R142: a read of the burst just written returns its data. -/
theorem memReadBurst_memWriteBurst (m : List Host.Cell) (a : Nat) (d : Burst) (h : Memory.wf m = true) :
    memReadBurst (memWriteBurst m a d) a = d := by
  ext i hi
  simp [memReadBurst, memRead_memWriteBurst m a (a + i) d h, hi]

theorem Memory.wf_abandonBytes : ∀ (xs : List Byte) (m : List Host.Cell) (f a : Nat), Memory.wf m = true →
    Memory.wf (abandonBytes m f a xs) = true
  | [], _, _, _, h => h
  | x :: xs, m, f, a, h => by
    refine Memory.wf_abandonBytes xs _ (f + 1) (a + 1) ?_
    split
    · exact Memory.wf_memWrite m a x h
    · exact h

theorem Memory.wf_abandonTransfers : ∀ (ts : List Transfer) (m : List Host.Cell) (f : Nat), Memory.wf m = true →
    Memory.wf (abandonTransfers m f ts) = true
  | [], _, _, h => h
  | .ingestWrite _ a _ d :: ts, m, f, h =>
    Memory.wf_abandonTransfers ts _ (f + 64) (Memory.wf_abandonBytes d.toList m f a h)
  | .hostWrite a _ d :: ts, m, f, h =>
    Memory.wf_abandonTransfers ts _ (f + 64) (Memory.wf_abandonBytes d.toList m f a h)
  | .portRead .. :: ts, m, f, h => Memory.wf_abandonTransfers ts m f h
  | .hostRead .. :: ts, m, f, h => Memory.wf_abandonTransfers ts m f h

theorem Memory.wf_effect (t : Transfer) (m : List Host.Cell) (h : Memory.wf m = true) :
    Memory.wf (t.effect m) = true := by
  cases t <;> simp only [Transfer.effect] <;> first | exact Memory.wf_memWriteBurst _ _ _ h | exact h

/-- The memory of the part right after reset is in canonical form. -/
theorem Memory.wf_reset : Memory.wf State.reset.mem = true := rfl

end Sys2Proof.Machine
end

