-- ==== Sys2Proof/Laws/Slots.lean ====
section
/-! SUPPORT. What each claim of the slot table does, said once: sets of windows, departure, the claims of windows and
of producers; and when a frame of an ingest port is done. -/

namespace Sys2Proof.Machine

/-! ## Sets of windows -/

theorem winHas_winBit (w k : WindowId) : winHas (winBit w) k = decide (w = k) := by
  revert w k; decide

@[simp] theorem winHas_zero (w : WindowId) : winHas 0#16 w = false := by simp [winHas]

theorem winHas_winAdd (s : WinSet) (w k : WindowId) : winHas (winAdd s w) k = (winHas s k || decide (w = k)) := by
  have h := winHas_winBit w k
  unfold winHas at h
  simp only [winHas, winAdd, BitVec.getLsbD_or, h]

theorem winHas_winDrop (s : WinSet) (w k : WindowId) : winHas (winDrop s w) k = (winHas s k && !decide (w = k)) := by
  have h := winHas_winBit w k
  unfold winHas at h
  simp only [winHas, winDrop, BitVec.getLsbD_and, BitVec.getLsbD_not, h]
  simp

theorem mem_winMembers (s : WinSet) (w : WindowId) : w ∈ winMembers s ↔ winHas s w = true := by
  simp [winMembers, allWindows]

/-- A set without members is the empty set. -/
theorem winSet_eq_zero (s : WinSet) : s = 0 ↔ ∀ w : WindowId, winHas s w = false := by
  constructor
  · rintro rfl w; simp
  · intro h
    apply BitVec.eq_of_getLsbD_eq
    intro k hk
    simpa [winHas] using h ⟨k, hk⟩

/-! ## Departure (R9) -/

theorem Video.tryDepart_keeps {v : Video} {i : SlotId} (h : v.departs i = false) : v.tryDepart i = v := by
  simp [Video.tryDepart, h]

theorem Video.tryDepart_departs {v : Video} {i : SlotId} (h : v.departs i = true) : v.tryDepart i = v.depart i := by
  simp [Video.tryDepart, h]

/-- R9: a slot that is neither leaving nor DETACHED does not depart. -/
theorem Video.tryDepart_stays {v : Video} {i : SlotId} (hl : (v.slot i).leaving = false)
    (hd : (v.slot i).state ≠ .detached) : v.tryDepart i = v := by
  apply Video.tryDepart_keeps
  cases ho : (v.slot i).owner <;> simp [Video.departs, ho, hl, hd]

theorem Slot.neverSeen_iff (sl : Slot) :
    sl.neverSeen = true ↔ (sl.state = .ready ∨ sl.state = .detached) ∧ sl.seen = false := by
  simp [Slot.neverSeen]

/-- R9: the departure of a slot of a stream that does not drain. -/
theorem Video.depart_eq {v : Video} {i : SlotId} {st : StreamId} (ho : (v.slot i).owner = some st)
    (hs : (v.stream st).state ≠ .draining) :
    v.depart i =
      (v.setSlot i { Slot.reset with base := (v.slot i).base }).setStream st
        { v.stream st with
          pool := (v.stream st).pool.filter (· != i)
          unseen :=
            if (v.slot i).neverSeen = true then satInc (v.stream st).unseen else (v.stream st).unseen } := by
  unfold Video.depart
  simp only [ho]
  by_cases h : (v.slot i).neverSeen = true
  · simp only [h, if_true, Video.modStream, Video.setStream_stream_self, Video.setStream_setStream]
    rw [if_neg (by simp [Stream.countUnseen, hs])]
    simp [Stream.countUnseen, Video.setStream_setSlot]
  · simp only [h, if_false, Video.modStream, Bool.false_eq_true]
    rw [if_neg (by simp [hs])]
    simp [Video.setStream_setSlot]

/-! ## Claims of windows (R16, R17, R19) -/

theorem Video.latchClaim_eq {v : Video} {i : SlotId} (w : WindowId)
    (h : (v.slot i).state = .ready ∨ (v.slot i).state = .filling ∨ (v.slot i).state = .completing) :
    v.latchClaim w i =
      v.setSlot i
        { v.slot i with
          readers := winAdd (v.slot i).readers w, owed := winDrop (v.slot i).owed w, seen := true } := by
  unfold Video.latchClaim
  rcases h with h | h | h <;> simp [h, Video.modSlot]

theorem Video.release_none {v : Video} {w : WindowId} {i : SlotId} (h : winHas (v.slot i).readers w = false) :
    v.release w i = v := by
  simp [Video.release, h]

theorem Video.release_eq {v : Video} {w : WindowId} {i : SlotId} (h : winHas (v.slot i).readers w = true) :
    v.release w i =
      (let v' := v.setSlot i { v.slot i with readers := winDrop (v.slot i).readers w }
      match (v.slot i).state with
      | .ready | .detached => v'.tryDepart i
      | .filling | .completing => v'
      | .empty | .spare => v) := by
  cases hs : (v.slot i).state <;> simp only [Video.release, h, hs, if_true, Video.modSlot]

theorem Video.dischargeSlot_none {v : Video} {w : WindowId} {i : SlotId} (h : winHas (v.slot i).owed w = false) :
    v.dischargeSlot w i = v := by
  simp [Video.dischargeSlot, h]

/-! ## Claims of producers (R10 to R15) -/

/-- R10: a take of a stream with a FILLING slot is refused. -/
theorem Video.take_refused {v : Video} {st : StreamId} (h : (v.fillingOf st).isSome = true) :
    v.take st = (v, .refused) := by
  simp [Video.take, h]

theorem Video.take_noTarget {v : Video} {st : StreamId} (h : (v.fillingOf st).isSome = false)
    (ht : v.takeTarget st = none) : v.take st = (v, .noTarget) := by
  simp [Video.take, h, ht]

/-- R10: what a take that finds a slot does. -/
theorem Video.take_taken {v : Video} {st : StreamId} {i : SlotId} (h : (v.fillingOf st).isSome = false)
    (ht : v.takeTarget st = some i) :
    v.take st =
      ((v.setSlot i
          { v.slot i with
            state := .filling, seq := (v.stream st).nextSeq, committed := 0, damage := 0, readers := 0, owed := 0
            seen := false }).setStream st
        { v.stream st with
          nextSeq := seqNext (v.stream st).nextSeq
          fillTarget := some i
          unseen :=
            if (v.slot i).state = .ready ∧ (v.slot i).seen = false then satInc (v.stream st).unseen
            else (v.stream st).unseen },
        .taken i (v.stream st).nextSeq) := by
  unfold Video.take
  simp only [h, ht, Bool.false_eq_true, if_false]
  by_cases hs : (v.slot i).state = .ready ∧ (v.slot i).seen = false
  · simp only [hs, beq_self_eq_true, Bool.not_false, Bool.and_self, if_true, Video.modStream, Video.modSlot,
      Video.setStream_slot, Video.setStream_stream_self, and_self, Stream.countUnseen,
      Video.setStream_setSlot, Video.setStream_setStream]
  · have h' : ((v.slot i).state == .ready && !(v.slot i).seen) = false := by
      simp at hs ⊢; exact hs
    simp only [h', hs, if_false, Bool.false_eq_true, Video.modStream, Video.modSlot, Video.setSlot_stream]

theorem Video.commit_ignored {v : Video} {i : SlotId} {q : Seq} {n : Nat} (h : v.claimReaches i q = false) :
    v.commit i q n = v := by
  simp [Video.commit, h]

theorem Video.markDamage_eq (v : Video) (i : SlotId) (q : Seq) (k : DamageKind) :
    v.markDamage i q k =
      if v.claimReaches i q = true then v.setSlot i { v.slot i with damage := (v.slot i).damage ||| k.bit } else v := rfl

/-- R14, R15: a slot that is not leaving becomes EMPTY. -/
theorem Video.emptySlot_eq {v : Video} {i : SlotId} (h : (v.slot i).leaving = false) :
    v.emptySlot i =
      v.setSlot i
        { v.slot i with
          state := .empty, seq := 0, committed := 0, damage := 0, readers := 0, seen := false } := by
  unfold Video.emptySlot
  rw [Video.tryDepart_stays (by simp [h]) (by simp)]
  simp [Video.modSlot]

/-- R14, R15: nothing is forced out of a slot without readers. -/
theorem Video.forceOutReaders_none {v : Video} {i : SlotId} (h : (v.slot i).readers = 0) : v.forceOutReaders i = v := by
  have hm : winMembers (0 : WinSet) = [] := by decide
  unfold Video.forceOutReaders
  simp only [h, hm, List.foldl_nil, Video.modSlot]
  have hs : { v.slot i with readers := 0 } = v.slot i := by rw [← h]
  rw [hs, Video.setSlot_self]

/-- R15: the abandon of a frame that no window reads, from a slot that is not leaving. -/
theorem Video.abandon_eq {v : Video} {i : SlotId} {st : StreamId} (ho : (v.slot i).owner = some st)
    (hs : (v.slot i).state = .filling ∨ (v.slot i).state = .completing) (hr : (v.slot i).readers = 0)
    (hl : (v.slot i).leaving = false) :
    v.abandon i =
      (v.setSlot i
        { v.slot i with
          state := .empty, seq := 0, committed := 0, damage := 0, readers := 0, seen := false }).setStream st
        ({ v.stream st with abandoned := satInc (v.stream st).abandoned }.dropTarget i) := by
  unfold Video.abandon
  have hb : ((v.slot i).state == .filling || (v.slot i).state == .completing) = true := by
    rcases hs with hs | hs <;> simp [hs]
  simp only [ho, hb, if_true, Video.forceOutReaders_none hr]
  rw [Video.emptySlot_eq (by simpa [Video.modStream] using hl)]
  simp [Video.modStream, Video.setStream_setSlot, ho]

/-- R15: an abandon of a slot in any other state is ignored. -/
theorem Video.abandon_ignored {v : Video} {i : SlotId} (hf : (v.slot i).state ≠ .filling)
    (hc : (v.slot i).state ≠ .completing) : v.abandon i = v := by
  unfold Video.abandon
  split <;> simp [hf, hc]

/-! ## Frames that are done (R101) -/

/-- R102: without orphans every write of the port in flight is its own. -/
@[simp] theorem Ingest.ownWrites_of_no_orphans {g : Ingest} (h : g.orphans = 0) (p : PortId) (flying : List Transfer) :
    g.ownWrites p flying = flying.filter fun t => t.isWriteOf p := by
  simp [Ingest.ownWrites, h]

/-- R102: with nothing in flight the port has no write of its own there. -/
@[simp] theorem Ingest.ownWrites_nil (g : Ingest) (p : PortId) : g.ownWrites p [] = [] := by
  simp [Ingest.ownWrites]

/-- R101: when a frame of the frame list is done. -/
theorem Ingest.frameDone_iff (g : Ingest) (p : PortId) (flying : List Transfer) (e : FrameEntry) :
    g.frameDone p flying e = true ↔
      e.ended = true ∧ (∀ b ∈ g.fifo, ¬(b.tag.slot = e.slot ∧ b.tag.seq = e.seq)) ∧
        ∀ t ∈ g.ownWrites p flying, t.isOf p e.slot e.seq = false := by
  simp [Ingest.frameDone, and_assoc]

end Sys2Proof.Machine
end

