-- ==== Sys2Proof/Tests/Slice0.lean ====
section
/-! SUPPORT. Tests: the well-formedness check, the states that meet the hypotheses of the statements, and single steps
whose results the spec gives. -/

open Sys2Proof Sys2Proof.Machine

namespace Sys2Proof.Tests

set_option Elab.async false

/-! ## The well-formedness check -/

theorem test_unknown_type_with_a_known_byte : (Instr.unknownType 0x20 3).wellFormed = false := by decide
theorem test_unknown_type_with_an_unknown_byte : (Instr.unknownType 0x21 3).wellFormed = true := by decide
theorem test_bad_command_with_a_known_code : (Instr.badCommand 1 0x7E []).wellFormed = false := by decide
theorem test_bad_command_with_an_unknown_code : (Instr.badCommand 1 0x7D []).wellFormed = true := by decide
theorem test_bad_command_too_long : (Instr.badCommand 1 0x7D (List.replicate 4105 0)).wellFormed = false := by
  decide +kernel
theorem test_stream_open_too_long :
    (Instr.streamOpen 1 0 4 2 16 16 1 0 0 (List.replicate 4094 0)).wellFormed = false := by
  decide +kernel
theorem test_cadence_set_too_long : (Instr.cadenceSet 1 0 (List.replicate 4104 1)).wellFormed = false := by
  decide +kernel
theorem test_span_write_too_long : (Instr.spanWrite 1 0 0 0 64 (List.replicate 4098 1)).wellFormed = false := by
  decide +kernel
theorem test_nop_too_long : (Instr.nop 1 (List.replicate 4105 0)).wellFormed = false := by
  decide +kernel
theorem test_nop_longest : (Instr.nop 1 (List.replicate 4104 0)).wellFormed = true := by
  decide +kernel

/-! ## States to test on -/

/-- The part with its memory ready and nothing opened. -/
def live : State := { State.reset with channel := { Channel.reset with cal := .ready, attempts := 1 } }

/-- Stream 0 takes pictures from IN0: slot 0 holds the newest frame, which window 0 shows, slot 1 is being filled and
slot 2 is EMPTY. Stream 1 is a RUNNING host stream with EMPTY slots, stream 2 an OPEN one. Port OUT0 is ON. -/
def demoVideo : Video :=
  let slots : Video → Video := fun v =>
    ((((((v.setSlot 0
        { Slot.reset with owner := some 0, state := .ready, seq := 5, committed := 16, readers := 1, seen := true }).setSlot 1
        { Slot.reset with base := 1, owner := some 0, state := .filling, seq := 6, committed := 3 }).setSlot 2
        { Slot.reset with base := 2, owner := some 0, state := .empty }).setSlot 3
        { Slot.reset with base := 3, owner := some 1, state := .empty }).setSlot 4
        { Slot.reset with base := 4, owner := some 1, state := .empty }).setSlot 5
        { Slot.reset with base := 5, owner := some 2, state := .empty }).setSlot 6
        { Slot.reset with base := 6, owner := some 2, state := .empty }
  let streams : Video → Video := fun v =>
    ((v.setStream 0
        { Stream.reset with
          state := .running, source := some (.input 0), pool := [0, 1, 2], nextSeq := 7, newest := 5
          fillTarget := some 1 }).setStream 1
        { Stream.reset with state := .running, source := some .host, pool := [3, 4] }).setStream 2
        { Stream.reset with state := .opened, source := some .host, pool := [5, 6] }
  let ports : Video → Video := fun v =>
    (v.setPort 0 { Port.reset with on := true, timingValid := true, lineCounter := 5 }).setPort 1
      { Port.reset with timingValid := true, totalLines := 40 }
  (((ports (streams (slots Video.reset))).setWindow 0
      { Window.reset with
        state := .showing, stream := some 0, current := some 0, readySeq := 5, holdTarget := 1 }).setInput 0
    { Ingest.reset with
      state := .capturing, stream := some 0, target := some (1, 6), lossTimer := some 7, lineIndex := 3
      linesReceived := 3
      frames := [{ slot := 1, seq := 6, ended := false, commitPoint := 3, lines := [] }] })

def demo : State := { live with video := demoVideo }

/-- `demo` with its picture records changed. -/
def demoWith (f : Video → Video) : State := { demo with video := f demoVideo }

/-- A link that is free. -/
theorem linkFree_of {s : State} (h : s.link = Link.reset) : LinkFree s := by
  refine ⟨?_, ?_, ?_⟩ <;> rw [h] <;> decide

theorem live_free : LinkFree live := linkFree_of rfl
theorem demo_free : LinkFree demo := linkFree_of rfl
theorem demoWith_free (f : Video → Video) : LinkFree (demoWith f) := linkFree_of rfl

theorem demo_pools : demo.video.PoolsOk :=
  ⟨by unfold Video.OwnersOk; decide +kernel, by decide +kernel, by decide +kernel, by decide +kernel, by decide +kernel⟩

theorem demo_readers : demo.video.ReadersOk :=
  ⟨by decide +kernel, by decide +kernel, by decide +kernel, by decide +kernel⟩

theorem demo_custody : demo.video.CustodyOk :=
  ⟨by decide +kernel, by decide +kernel, by decide +kernel, by decide +kernel, by decide +kernel⟩

/-- The regions of `demo`, each base unit apart. -/
theorem demo_regions : demo.video.RegionsOk := by
  have inside : ∀ i : SlotId, ∀ st : StreamId, (demo.video.slot i).owner = some st →
      (demo.video.slot i).base.toNat = i.val ∧ (demo.video.stream st).pitch * 64 * (demo.video.stream st).height = 1024 := by
    decide +kernel
  constructor
  · rintro i a ⟨st, ho, h1, h2⟩
    have := inside i st ho
    omega
  · rintro i j a ⟨st, ho, h1, h2⟩ ⟨st', ho', h1', h2'⟩
    have := inside i st ho
    have := inside j st' ho'
    exact Fin.ext (by omega)

theorem demo_geometry : demo.video.GeometryOk :=
  ⟨fun st => ⟨by revert st; decide +kernel, by revert st; decide +kernel, by revert st; decide +kernel,
    by revert st; decide +kernel⟩, by decide +kernel⟩

theorem demo_fifos (p : PortId) : (demo.video.input p).FifoOk :=
  ⟨by revert p; decide +kernel, by revert p; decide +kernel, by revert p; decide +kernel⟩

/-! ## States that meet the hypotheses of the statements -/

/-- One command at the front of the queue. -/
def fronted (c : Instr) (s : State) : State := { s with pending := [c] }

def aBurst : Burst := Vector.replicate 64 7
def aTag : BurstTag := { slot := 1, seq := 6, line := 2, burst := 0 }
def anEntry : CmdEntry := { tag := 9, code := 0x7F, payload := [], purged := false }
def aResponse : Response := { tag := 8, code := 0x7E, status := .ok, payload := [1] }

/-- `demo` with transfers in flight. -/
def flying (ts : List Transfer) : State := { demo with channel := { demo.channel with inFlight := ts } }

/-- The link record with a command executing, and commands and responses queued. -/
def busyLink (e : Option CmdEntry) (cs : List CmdEntry) (rs : List Response) : Link :=
  { Link.reset with executing := e, commands := cs, responses := rs }

theorem witness_PowerOnReset :
    Memory.wf (flying [.hostWrite 64 0 aBurst]).mem = true ∧
    (∀ x ∈ (flying [.hostWrite 64 0 aBurst]).channel.inFlight, x.writes 63 = none) ∧
    ∀ x ∈ (flying [.hostWrite 64 0 aBurst]).channel.inFlight, x.writes 128 = none := by decide +kernel

def calibrating (n : Nat) : State := { State.reset with channel := { Channel.reset with attempts := n } }

theorem witness_CalibrationTable :
    (∀ n : Fin 4, (calibrating n).channel.cal = .calibrating) ∧ (calibrating 0).channel.attempts = 0 ∧
    (1 ≤ (calibrating 1).channel.attempts ∧ (calibrating 1).channel.attempts ≤ 2) ∧
    (1 ≤ (calibrating 2).channel.attempts ∧ (calibrating 2).channel.attempts ≤ 2) ∧
    (1 ≤ (calibrating 3).channel.attempts ∧ (calibrating 3).channel.attempts = 3) := by decide +kernel

theorem witness_ResetCommand :
    (LinkFree demo ∧ demo.channel.inFlight = []) ∧
    LinkFree (flying [.hostRead 64 0]) ∧ (flying [.hostRead 64 0]).channel.inFlight ≠ [] :=
  ⟨⟨demo_free, rfl⟩, linkFree_of rfl, by decide +kernel⟩

def draining (ts : List Transfer) : State :=
  { demo with
    channel := { demo.channel with inFlight := ts, draining := true }, link := busyLink (some anEntry) [] [] }

/-- No transfer, one write at the last burst of frame memory, two transfers. -/
theorem witness_ResetPoint :
    Memory.wf (draining []).mem = true ∧
    (∀ n : Fin 3, let s := draining (List.replicate n.val (.hostWrite 268435392 0 aBurst))
      s.link.executing = some anEntry ∧ s.link.commands = [] ∧ s.host.state = .idle) ∧
    ((draining []).channel.draining = true ∧ (draining []).channel.inFlight.length ≤ 1 ∧
      ∀ x ∈ (draining [.hostWrite 268435392 0 aBurst]).channel.inFlight,
        x.addr % 64 = 0 ∧ x.addr + 64 ≤ 268435456) ∧
    2 ≤ (draining [.hostRead 0 0, .hostRead 64 1]).channel.inFlight.length := by decide +kernel

/-- Commands that wait for the reset point: a purged one, one of the longest payload, and as many as the queue holds. -/
theorem witness_ResetPoint_waiting :
    ∀ n : Fin 9,
      let longest : CmdEntry := { anEntry with code := 0x7E, payload := List.replicate 4104 1 }
      let s :=
        { draining [.portRead 0 64 { frame := 0, line := 0, store := 0, layer := 0, burst := 0 }] with
          link := busyLink (some anEntry) (({ anEntry with purged := true } :: longest :: List.replicate 6 anEntry).take n) [] };
      Memory.wf s.mem = true ∧ s.link.executing = some anEntry ∧
        (∀ x ∈ s.link.commands, x.payload.length ≤ 4104) ∧ s.host.state = .idle ∧ s.channel.draining = true ∧
        s.channel.inFlight.length ≤ 1 ∧ s.link.commands.length = n.val := by
  decide +kernel

/-- Per row of the table of link faults, a frame at the row's boundary. -/
theorem witness_CommandWriteTable :
    let len := fun bytes : List Byte => (bytes.getD 2 0).toNat + 256 * (bytes.getD 3 0).toNat
    let nop := commandFrame 5 0x7E [1]
    len [5, 0x7E, 0x09, 0x10] = 4105 ∧ [5, 0x7E, (0 : Byte)].length < 4 ∧
    (len [5, 0x7E, 0x08, 0x10] = 4104 ∧ [5, 0x7E, (0x08 : Byte), 0x10].length < 5 + 4104) ∧
    (len (nop ++ [0]) = 1 ∧ 5 + 1 < (nop ++ [0]).length) ∧
    (len [5, 0x7E, 0, 0, 1] = 0 ∧ ([5, 0x7E, 0, (0 : Byte), 1].map BitVec.toNat).sum % 256 ≠ 0) ∧
    (len nop = 1 ∧ nop.length = 5 + 1 ∧ (nop.map BitVec.toNat).sum % 256 = 0) ∧
    8 ≤ (busyLink (some anEntry) (List.replicate 8 anEntry) []).commands.length ∧
    ((busyLink (some anEntry) [] []).commands.length < 8 ∧ (busyLink (some anEntry) [] []).executing ≠ none) ∧
    8 ≤ (busyLink none [] (List.replicate 8 aResponse)).responses.length := by decide +kernel

theorem witness_UnknownTypesCodesAndLengths :
    ((0x00 : Byte) ∉ [0x10, 0x20, 0x30, 0x40] ∧ (0x40 : Byte) ∈ [0x10, 0x20, 0x30, 0x40]) ∧
    (argumentSize 0x7E ≠ none ∧ argumentSize 0x05 = none) ∧ LinkFree demo ∧ ([] : List Byte).length ≤ 4104 ∧
    (argumentSize 0x03 = some (6, false) ∧ ([0, 0, 0, 0, 0, 0, 0] : List Byte).length ≠ 6) ∧
    argumentSize 0x10 = some (11, true) ∧ ([] : List Byte).length < 11 :=
  ⟨by decide, by decide, demo_free, by decide, by decide, by decide⟩

theorem witness_EveryHostRowIsItsFrame :
    hostCommand (.pin 3 1 0 0xFFFFFFFF) = some (3, .pin 1 0 0xFFFFFFFF) ∧
    (Instr.pin 3 1 0 0xFFFFFFFF).wellFormed = true := by decide

/-- A PIN that waits, not purged, before another command while eight responses are queued. -/
theorem witness_EveryHostRowIsItsFrame_waiting :
    let c := HostCmd.pin 1 0 0xFFFFFFFF
    let waiting : CmdEntry := { tag := 3, code := c.code, payload := c.payload, purged := false }
    let l := busyLink none [waiting, anEntry] (List.replicate 8 aResponse)
    hostCommand (.pin 3 1 0 0xFFFFFFFF) = some (3, c) ∧ c.payload.length ≤ 4104 ∧
    (HostCmd.nop (List.replicate 4104 0)).payload.length ≤ 4104 ∧ l.responses = aResponse :: List.replicate 7 aResponse ∧
    l.responses.length = 8 ∧ aResponse.bytes.length ≤ 7 ∧ l.executing = none ∧ l.commands = waiting :: [anEntry] := by
  decide +kernel

/-- A response read short, whole, and whole with a purged command waiting behind a full response queue. -/
theorem witness_ResponseRead :
    let full := busyLink none [{ anEntry with purged := true }] (List.replicate 8 aResponse)
    Link.reset.responses = [] ∧ (busyLink none [] [aResponse]).responses = aResponse :: [] ∧
    (6 < aResponse.bytes.length ∧ aResponse.bytes.length ≤ 7) ∧ (busyLink none [] [aResponse]).commands = [] ∧
    full.executing = none ∧ full.responses.length = 8 ∧ full.commands = { anEntry with purged := true } :: [] := by
  decide

def spanning (state : HostState) (issued completed : Nat) (ts : List Transfer) : State :=
  { flying ts with
    host := { HostUnit.reset with state := state, slot := some 4, spanBursts := 4, issued := issued, completed := completed }
    link := busyLink (some anEntry) [] [] }

theorem witness_AbortTable :
    demo.host.state = .idle ∧
    ((spanning .writing 2 1 []).host.state ≠ .idle ∧ (spanning .writing 2 1 []).host.completed ≠ 2) ∧
    (spanning .reading 0 0 []).host.state ≠ .idle ∧
    (spanning .reading 0 0 []).host.completed = (spanning .reading 0 0 []).host.issued ∧
    (spanning .reading 0 0 []).link.commands = [] ∧ (spanning .reading 0 0 []).link.executing = some anEntry := by
  decide +kernel

/-- A span whose issued bursts have all completed, with a PIN waiting behind it, purged or not, and six responses. -/
theorem witness_AbortTable_waiting :
    ∀ purged : Bool,
      let c := HostCmd.pin 1 0 0xFFFFFFFF
      let s :=
        { spanning .writing 2 2 [] with
          link :=
            busyLink (some anEntry) [{ tag := 3, code := c.code, payload := c.payload, purged := purged }]
              (List.replicate 6 aResponse) };
      s.host.state ≠ .idle ∧ s.host.completed = s.host.issued ∧ s.link.executing = some anEntry ∧
        hostCommand (.pin 3 1 0 0xFFFFFFFF) = some (3, c) ∧ c.payload.length ≤ 4104 ∧ s.link.responses.length < 7 ∧
        s.link.commands = [{ tag := 3, code := c.code, payload := c.payload, purged := purged }] := by
  decide +kernel

theorem link_reset_ok : Link.reset.Ok := ⟨by decide, by decide, by decide, fun _ _ => rfl⟩

theorem witness_LinkKept : (fronted (.statusRead 5) demo).link.Ok ∧ ∃ t, step (fronted (.statusRead 5) demo) = .next t :=
  ⟨link_reset_ok, _, rfl⟩

theorem witness_OrderKept :
    (∃ t, exec (.responseRead 7) { demo with link := busyLink none [] [aResponse] } = .next t) ∧
    aResponse.payload.length < 65536 := ⟨⟨_, rfl⟩, by decide⟩

theorem witness_AttentionChanges :
    LinkFree demo ∧ ((7 : EntryId).val < 8 ∧ (31 : Byte).toNat < 32) ∧ ¬(8 : EntryId).val < 8 ∧ (7 : Byte).toNat < 8 :=
  ⟨demo_free, by decide⟩

/-- The attention table after power-on reset. -/
theorem attn_reset_ok : Attention.reset.Ok := ⟨by decide +kernel, by decide +kernel, by decide +kernel⟩

theorem witness_AttnKept : (fronted .calibrationPass (calibrating 1)).video.attn.Ok ∧
    ∃ t, step (fronted .calibrationPass (calibrating 1)) = .next t := ⟨attn_reset_ok, _, rfl⟩

/-- A port that can be switched on, and a stream in use with a SPARE slot to grow by, while calibration runs. -/
theorem witness_Refusals :
    let s := { (demoWith fun v => v.setSlot 9 { Slot.reset with base := 0xFFFF }) with channel := Channel.reset };
    (∃ s', runCmd (.slotBase 64 0) demo = .done s' .badArg []) ∧ LinkFree s ∧ s.channel.cal ≠ .ready ∧
    ((s.video.port 1).on = false ∧ (s.video.port 1).timingValid = true) ∧ ([] : List Byte).length ≤ 4096 ∧
    (s.video.stream 0).live = true ∧ (s.video.stream 0).pool.length < 8 ∧ (s.video.slot 9).state = .spare ∧
    s.video.regionCheck (s.video.stream 0).pitch (s.video.stream 0).height [9] = true :=
  ⟨⟨_, rfl⟩, linkFree_of rfl, by decide +kernel⟩

/-- A SPARE slot, and a slot of every other shape for the query. -/
theorem witness_SlotBaseAndQuery : LinkFree demo ∧ (demo.video.slot 63).state = .spare := ⟨demo_free, by decide +kernel⟩

theorem witness_PinResults :
    LinkFree demo ∧ (demo.video.slot 0).state = .ready ∧ (demo.video.slot 0).owner = some 0 ∧
    (demo.video.slot 0).pinned = false ∧ (demo.video.stream 0).live = true ∧
    demo.video.newestReady 0 = some 0 ∧ (demo.video.slot 0).seq ≠ 0 ∧ (0 : SlotId) ∈ (demo.video.stream 0).pool ∧
    (∀ j ∈ (demo.video.stream 0).pool, (demo.video.slot j).state = .ready →
      (demo.video.slot j).seq = (demo.video.slot 0).seq → j = 0) ∧
    (demo.video.window 0).state ≠ .chasing ∧ (demo.video.window 0).current = some 0 := ⟨demo_free, by decide +kernel⟩

/-- `demo` with slot 2 pinned and otherwise as given. -/
def pinnedAs (x : Slot) (st : StreamState) : State :=
  demoWith fun v => (v.setSlot 2 { x with owner := some 0, pinned := true }).setStream 0
    { v.stream 0 with state := st, pool := [2] }

theorem witness_UnpinResults :
    (∀ (x : Slot) (st : StreamState), LinkFree (pinnedAs x st)) ∧
    (let sl := (pinnedAs { Slot.reset with state := .ready, seq := 4 } .running).video.slot 2;
      sl.pinned = true ∧ sl.state = .ready ∧ sl.leaving = false) ∧
    (let sl := (pinnedAs { Slot.reset with state := .ready, seq := 4, leaving := true, owed := 1 } .running).video.slot 2;
      sl.state = .ready ∧ sl.owed ≠ 0) ∧
    (let s := pinnedAs { Slot.reset with state := .ready, seq := 5, leaving := true } .running;
      (s.video.slot 2).state = .ready ∧ (s.video.slot 2).owner = some 0 ∧
        (s.video.slot 2).seq = (s.video.stream 0).newest) ∧
    (let sl := (pinnedAs { Slot.reset with state := .detached, seq := 4, readers := 2 } .draining).video.slot 2;
      sl.state = .detached ∧ sl.readers ≠ 0) ∧
    (let s := pinnedAs { Slot.reset with state := .ready, seq := 4, leaving := true } .running;
      let sl := s.video.slot 2;
      sl.owner = some 0 ∧ sl.readers = 0 ∧ (s.video.stream 0).state ≠ .draining ∧ sl.leaving = true ∧ sl.owed = 0 ∧
        sl.seq ≠ (s.video.stream 0).newest) ∧
    (let s := pinnedAs { Slot.reset with state := .detached, seq := 4 } .draining;
      let sl := s.video.slot 2;
      sl.owner = some 0 ∧ sl.readers = 0 ∧ (s.video.stream 0).state = .draining ∧ sl.state = .detached) :=
  ⟨fun _ _ => linkFree_of rfl, by decide +kernel⟩

/-- A stream with a FILLING slot, one with an EMPTY slot, and one with nothing to take. -/
theorem witness_TakeClaim :
    (∃ i ∈ (demoVideo.stream 0).pool, (demoVideo.slot i).state = .filling) ∧
    ((∀ i ∈ (demoVideo.stream 1).pool, (demoVideo.slot i).state ≠ .filling) ∧
      (demoVideo.stream 1).pool.find? (fun j => decide ((demoVideo.slot j).state = .empty ∧ (demoVideo.slot j).leaving = false))
        = some 3 ∧ (demoVideo.take 1).2 = .taken 3 1) ∧
    let v := (demoVideo.setStream 1 { demoVideo.stream 1 with pool := [0] })
    (∀ i ∈ (v.stream 1).pool, (v.slot i).state ≠ .filling) ∧
    (∀ i ∈ (v.stream 1).pool, (v.slot i).state = .empty → (v.slot i).leaving = true) ∧
    (v.take 1).2 = .noTarget := by decide +kernel

/-- The oldest of two reclaimable frames, whose numbers meet at the wrap. -/
theorem witness_TakeClaim_reclaims :
    let old : Slot := { Slot.reset with owner := some 1, state := .ready, seq := 0xFFFFFFFF }
    let v := ((demoVideo.setSlot 3 { old with seq := 1 }).setSlot 4 old).setStream 1
      { demoVideo.stream 1 with newest := 2, nextSeq := 3 }
    let reusable := fun j : SlotId =>
      (v.slot j).state = .ready ∧ ¬ (v.slot j).held ∧ (v.slot j).seq ≠ (v.stream 1).newest ∧ (v.slot j).leaving = false
    (∀ i ∈ (v.stream 1).pool, (v.slot i).state ≠ .filling) ∧
    (v.stream 1).pool.find? (fun j => decide ((v.slot j).state = .empty ∧ (v.slot j).leaving = false)) = none ∧
    (4 : SlotId) ∈ (v.stream 1).pool ∧ reusable 4 ∧ reusable 3 ∧
    (∀ j ∈ (v.stream 1).pool, reusable j → j ≠ 4 → seqNewer (v.slot j).seq (v.slot 4).seq = true) ∧
    (v.take 1).2 = .taken 4 3 := by
  dsimp only [Slot.held]
  refine ⟨?_, ?_, ?_, ?_, ?_, ?_, ?_⟩ <;> decide +kernel

theorem witness_SerialNumbers :
    (seqNewer 1 0xFFFFFFFF = true) ∧ ((0x80000005 : Seq).toNat + 4294967296 - (5 : Seq).toNat) % 4294967296 = 2147483648 := by
  decide

theorem witness_ProducerClaims :
    ((demoVideo.slot 1).seq ≠ 5 ∧ (demoVideo.slot 0).state ≠ .filling ∧ (demoVideo.slot 0).state ≠ .completing) ∧
    (demoVideo.slot 1).seq = 6 ∧ (demoVideo.slot 1).state = .filling ∧ 3 ≤ (demoVideo.slot 1).committed ∧
    (demoVideo.slot 1).committed < 4 := by decide +kernel

/-- `demoVideo` with the frame of slot 1 COMPLETING. -/
def completingVideo (damage : DamageSet) (mask : DamageSet) : Video :=
  (demoVideo.setSlot 1 { demoVideo.slot 1 with state := .completing, damage := damage }).setStream 0
    { demoVideo.stream 0 with discardMask := mask }

theorem witness_PublishedFrames :
    let v := completingVideo 2 1
    (v.slot 1).owner = some 0 ∧ (v.slot 1).state = .completing ∧ (v.slot 1).damage &&& (v.stream 0).discardMask = 0 ∧
    ∀ j : SlotId, v.newestReady 0 = some j → (v.slot j).leaving = false := by decide +kernel

/-- The newest frame's slot is leaving, no longer read. -/
theorem witness_PublishedFrames_departing :
    let v := (completingVideo 2 1).setSlot 0 { demoVideo.slot 0 with readers := 0, leaving := true }
    ((v.slot 1).owner = some 0 ∧ (v.slot 1).state = .completing ∧ (v.slot 1).damage &&& (v.stream 0).discardMask = 0) ∧
    v.newestReady 0 = some 0 ∧ (v.slot 0).leaving = true ∧ ¬ (v.slot 0).held ∧ (v.slot 0).owner = some 0 ∧
    (v.slot 0).seq ≠ (v.slot 1).seq ∧ (v.stream 0).state ≠ .draining := by
  unfold Slot.held
  decide +kernel

theorem witness_FramesGivenUp :
    let v := completingVideo 2 2
    ((demoVideo.slot 1).owner = some 0 ∧ (demoVideo.slot 1).readers = 0 ∧ (demoVideo.slot 1).leaving = false ∧
      (demoVideo.slot 1).state = .filling) ∧
    ((v.slot 1).state = .completing ∧ (v.slot 1).damage &&& (v.stream 0).discardMask ≠ 0) ∧
    (demoVideo.slot 2).owner = some 0 ∧ (demoVideo.slot 2).state ≠ .filling ∧ (demoVideo.slot 2).state ≠ .completing := by
  decide +kernel

theorem witness_PoolsKept : (fronted .grant demo).video.PoolsOk ∧ (fronted .grant demo).video.CustodyOk ∧
    ∃ t, step (fronted .grant demo) = .next t := ⟨demo_pools, demo_custody, _, rfl⟩
theorem witness_RegionsKept : (fronted .grant demo).video.PoolsOk ∧ (fronted .grant demo).video.RegionsOk ∧
    ∃ t, step (fronted .grant demo) = .next t := ⟨demo_pools, demo_regions, _, rfl⟩
theorem witness_ReadersKept : (fronted .grant demo).video.PoolsOk ∧ (fronted .grant demo).video.ReadersOk ∧
    ∃ t, step (fronted .grant demo) = .next t := ⟨demo_pools, demo_readers, _, rfl⟩

/-- Two SPARE slots whose regions of 4096 bytes touch but share no byte. -/
def opening : State :=
  demoWith fun v => (v.setSlot 7 { Slot.reset with base := 7 }).setSlot 8 { Slot.reset with base := 8 }

def firstByte (s : State) (i : SlotId) : Nat := (s.video.slot i).base.toNat * 4096

theorem witness_StreamOpenResult :
    LinkFree opening ∧ opening.channel.cal = .ready ∧ (opening.video.stream 3).state = .closed ∧
    (∀ x : StreamId, x ≠ 3 → (opening.video.stream x).source = some (.input 2) →
      (opening.video.stream x).state = .closed) ∧
    (4 * 16 + 63) / 64 ≤ 4 ∧ [7, (8 : SlotId)].Nodup ∧
    (∀ i ∈ [7, (8 : SlotId)], (opening.video.slot i).state = .spare) ∧
    (∀ i ∈ [7, (8 : SlotId)], firstByte opening i + 4096 ≤ 268435456) ∧
    (∀ i ∈ [7, (8 : SlotId)], ∀ j ∈ [7, (8 : SlotId)], i ≠ j →
      firstByte opening i + 4096 ≤ firstByte opening j ∨ firstByte opening j + 4096 ≤ firstByte opening i) ∧
    ∀ i ∈ [7, (8 : SlotId)], ∀ (j : SlotId) (x : StreamId), (opening.video.slot j).owner = some x →
      firstByte opening i + 4096 ≤ firstByte opening j ∨
        firstByte opening j + (opening.video.stream x).pitch * 64 * (opening.video.stream x).height
          ≤ firstByte opening i :=
  ⟨linkFree_of rfl, by decide +kernel, by decide +kernel, by decide +kernel, by decide, by decide, by decide +kernel,
    by decide +kernel, by decide +kernel, by decide +kernel⟩

/-- `demo` with stream 0 and IN0 in the given states. -/
def demoStates (st : StreamState) (g : IngestState) : State :=
  demoWith fun v => (v.setStream 0 { v.stream 0 with state := st }).setInput 0 { v.input 0 with state := g }

theorem witness_StreamStartResult :
    LinkFree demo ∧ ((demo.video.stream 2).state = .opened ∧ (demo.video.stream 2).source = some .host) ∧
    (let s := demoStates .opened .bound;
      LinkFree s ∧ (s.video.stream 0).state = .opened ∧ (s.video.stream 0).source = some (.input 0) ∧
        (s.video.input 0).state = .bound) := ⟨demo_free, by decide +kernel, linkFree_of rfl, by decide +kernel⟩

theorem witness_StopAfterFrameResult :
    (LinkFree demo ∧ (demo.video.stream 0).state = .running ∧ (demo.video.stream 0).source = some (.input 0) ∧
      (∃ i ∈ (demo.video.stream 0).pool, (demo.video.slot i).state = .filling) ∧
      (demo.video.input 0).state = .capturing) ∧
    (let s := { (demoStates .running .armed) with
        video := (demoStates .running .armed).video.setSlot 1 { Slot.reset with owner := some 0, state := .empty } };
      LinkFree s ∧ (∀ i ∈ (s.video.stream 0).pool, (s.video.slot i).state ≠ .filling) ∧
        (s.video.input 0).state ≠ .capturing) :=
  ⟨⟨demo_free, by decide +kernel⟩, linkFree_of rfl, by decide +kernel⟩

theorem witness_StopNowResult :
    let s := demoStates .stopping .capturing;
    LinkFree s ∧ (s.video.stream 0).state = .stopping ∧ s.video.fillingOf 0 = some 1 ∧
      (s.video.slot 1).owner = some 0 ∧ (s.video.slot 1).readers = 0 ∧ (s.video.slot 1).leaving = false ∧
      (s.video.stream 0).source = some (.input 0) ∧ (s.video.input 0).target = some (1, 6) :=
  ⟨linkFree_of rfl, by decide +kernel⟩

/-- A RUNNING stream with its frame in progress and one with none, each with its port. -/
theorem witness_StopNowResult_running :
    (LinkFree demo ∧ (demo.video.stream 0).state = .running ∧ demo.video.fillingOf 0 = some 1 ∧
      (demo.video.slot 1).owner = some 0 ∧ (demo.video.slot 1).readers = 0 ∧ (demo.video.slot 1).leaving = false ∧
      (demo.video.input 0).state = .capturing ∧ (demo.video.input 0).target = some (1, 6)) ∧
    (let s := { (demoStates .running .skipping) with
        video := (demoStates .running .skipping).video.setSlot 1 { Slot.reset with owner := some 0, state := .empty } };
      LinkFree s ∧ (s.video.stream 0).state = .running ∧ s.video.fillingOf 0 = none ∧
        (s.video.stream 0).source = some (.input 0) ∧ (s.video.input 0).state ≠ .capturing) :=
  ⟨⟨demo_free, by decide +kernel⟩, linkFree_of rfl, by decide +kernel⟩

theorem witness_StreamCloseResult : LinkFree demo ∧ demo.video.PoolsOk ∧ demo.video.CustodyOk ∧
    (demo.video.stream 0).live = true := ⟨demo_free, demo_pools, demo_custody, by decide +kernel⟩

theorem pools_setLock {v : Video} (h : v.PoolsOk) (p : PortId) (u : LockUnit) : (v.setLock p u).PoolsOk :=
  ⟨h.owners, h.member, h.nodup, h.size, h.closed⟩

theorem custody_setLock {v : Video} (h : v.CustodyOk) (p : PortId) (u : LockUnit) : (v.setLock p u).CustodyOk :=
  ⟨h.filling, h.owed, h.pinned, h.pins, h.detached⟩

/-- Lock units that follow the stream, in the states a lost reference reaches and in one that it does not. -/
theorem witness_StreamCloseResult_locks :
    ∀ k : Fin 3,
      let state : LockState := if k = 0 then .locked else if k = 1 then .acquiring else .holdover
      let v := demoVideo.setLock 0 { LockUnit.reset with configured := true, state := state }
      LinkFree { demo with video := v } ∧ v.PoolsOk ∧ v.CustodyOk ∧ (v.stream 0).state = .running ∧
        (v.lock 0).refStream = 0 ∧ (v.lock 0).state = state ∧ (v.port 0).on = true :=
  fun k =>
    ⟨linkFree_of rfl, pools_setLock demo_pools _ _, custody_setLock demo_custody _ _, by revert k; decide +kernel⟩

/-- Stream 0 with a fourth slot, EMPTY: three slots that are not leaving would remain without it. -/
theorem witness_PoolGrowAndShrink :
    let s := demoWith fun v =>
      ((v.setSlot 7 { Slot.reset with owner := some 0, state := .empty, leaving := true }).setSlot 9
        { Slot.reset with base := 0xFFFF }).setStream 0 { v.stream 0 with pool := [0, 1, 2, 7] };
    let others := fun i : SlotId => (s.video.stream 0).pool.countP fun j => decide (j ≠ i) && !(s.video.slot j).leaving;
    LinkFree s ∧ ((s.video.stream 0).live = true ∧ s.channel.cal = .ready ∧ (s.video.stream 0).pool.length < 8 ∧
      (s.video.slot 9).state = .spare ∧
      s.video.regionCheck (s.video.stream 0).pitch (s.video.stream 0).height [9] = true) ∧
    ((2 : SlotId) ∈ (s.video.stream 0).pool ∧ (s.video.slot 2).leaving = false ∧ others 2 = 2 ∧
      (s.video.slot 2).state = .empty) ∧
    ((s.video.slot 1).owner = some 0 ∧ (s.video.slot 1).state = .filling ∧ others 1 = 2) ∧
    ((7 : SlotId) ∈ (s.video.stream 0).pool ∧ (s.video.slot 7).leaving = true) ∧
    (demo.video.stream 1).pool.countP (fun j => decide (j ≠ 3) && !(demo.video.slot j).leaving) < 2 :=
  ⟨linkFree_of rfl, by decide +kernel⟩

theorem witness_WindowSetAndClear :
    LinkFree demo ∧ demo.video.ReadersOk ∧
    ((4095 : BitVec 16).toNat ≤ 4095 ∧ (4095 : BitVec 16).toNat + (1 : BitVec 16).toNat ≤ 4096 ∧
      (demo.video.port (portOf 0)).timingValid = true ∧
      (15 : BitVec 16).toNat < (demo.video.port (portOf 0)).activeWidth ∧
      (15 : BitVec 16).toNat < (demo.video.port (portOf 0)).activeLines) ∧
    (demo.video.window 0).state ≠ .clear ∧ (demo.video.window 1).state = .clear :=
  ⟨demo_free, demo_readers, by decide +kernel⟩

theorem witness_PlainSettings :
    LinkFree demo ∧ (∀ c ∈ List.replicate 16 (15 : Byte), 1 ≤ c.toNat ∧ c.toNat ≤ 15) ∧
    (demo.video.input 0).lossTimer = some 7 ∧ 7 < (8 : Byte).toNat ∧ (32 : Byte).toNat ≤ 32 := ⟨demo_free, by decide +kernel⟩

/-- The new timeout is exactly what the running timer has counted. -/
theorem witness_PlainSettings_due :
    LinkFree demo ∧ (1 ≤ (7 : Byte).toNat ∧ (1 : Byte).toNat ≤ (32 : Byte).toNat ∧ (32 : Byte).toNat ≤ 32) ∧
    (demo.video.input 0).lossTimer = some 7 ∧ (7 : Byte).toNat ≤ 7 ∧ (demo.video.input 0).state = .capturing ∧
    demo.channel.draining = false := ⟨demo_free, by decide +kernel⟩

/-- Window 0 of `demoVideo` with a hold target, and a newer frame in slot 2 or none. -/
def latchVideo (hold : Nat) (newer : Bool) : Video :=
  let v := demoVideo.setWindow 0 { demoVideo.window 0 with holdTarget := hold }
  if newer then
    (v.setSlot 2 { v.slot 2 with state := .ready, seq := 7, committed := 16 }).setStream 0
      { v.stream 0 with newest := 7, nextSeq := 8 }
  else v

theorem witness_FrameStartHoldsAndLatches :
    let v := demoVideo;
    ((v.window 0).state = .showing ∧ (v.window 0).stream = some 0 ∧ (v.window 0).current = some 0 ∧
      (v.window 0).guard = 0 ∧ (v.stream 0).live = true ∧ (v.stream 0).delivery = .newest ∧
      (v.stream 0).bpp = (v.port (portOf 0)).bpp ∧ (v.window 0).x0 + (v.window 0).w ≤ (v.stream 0).width ∧
      (v.window 0).y0 + (v.window 0).h ≤ (v.stream 0).height ∧ (v.slot 0).state = .ready) ∧
    min 15 (((latchVideo 2 false).window 0).shown + 1) < ((latchVideo 2 false).window 0).holdTarget ∧
    (((latchVideo 1 false).window 0).holdTarget ≤ min 15 (((latchVideo 1 false).window 0).shown + 1) ∧
      seqNewer ((latchVideo 1 false).stream 0).newest ((latchVideo 1 false).window 0).readySeq = false) ∧
    (latchVideo 1 true).newestReady 0 = some 2 ∧
    seqNewer ((latchVideo 1 true).stream 0).newest ((latchVideo 1 true).window 0).readySeq = true := by decide +kernel

/-- `demoVideo` with window 0 in the given state; it holds slot 0, or nothing. -/
def windowAs (state : WindowState) (holds : Bool) (f : Video → Video) : Video :=
  let v := demoVideo.setWindow 0
    { demoVideo.window 0 with state := state, current := if holds then some 0 else none, holdTarget := 2 }
  f (if holds then v else v.setSlot 0 { v.slot 0 with readers := 0 })

/-- The cases of the frame-start steps: a DRAINING stream, a stream that does not fit, before and in MISMATCH, a stream
that fits again, a hold that lasts, and one that has ended. -/
def stepCases : Fin 6 → Video
  | 0 => windowAs .showing true fun v => v.setStream 0 { v.stream 0 with state := .draining }
  | 1 => windowAs .showing true fun v => v.setStream 0 { v.stream 0 with width := 15 }
  | 2 => windowAs .mismatch false fun v => v.setStream 0 { v.stream 0 with height := 15 }
  | 3 => windowAs .mismatch false id
  | 4 => windowAs .showing true id
  | 5 => windowAs .showing true fun v => v.setWindow 0 { v.window 0 with shown := 1 }

/-- The picks of a window that holds nothing: a newer frame, none and no number, a retake, and under ORDERED the first
pick, the oldest frame owed of two, and none owed. -/
def pickCases : Fin 6 → Video
  | 0 => windowAs .idle false fun v => v.setWindow 0 { v.window 0 with readySeq := 4 }
  | 1 => windowAs .idle false fun v => (v.setWindow 0 { v.window 0 with readySeq := 0 }).setStream 0
      { v.stream 0 with newest := 0 }
  | 2 => windowAs .idle false id
  | 3 => windowAs .idle false fun v => (v.setWindow 0 { v.window 0 with readySeq := 0 }).setStream 0
      { v.stream 0 with delivery := .ordered }
  | 4 => windowAs .idle false fun v =>
      (((v.setSlot 0 { v.slot 0 with owed := winBit 0 }).setSlot 2
        { v.slot 2 with state := .ready, seq := 4, owed := winBit 0 }).setWindow 0
        { v.window 0 with readySeq := 3 }).setStream 0 { v.stream 0 with delivery := .ordered }
  | 5 => windowAs .idle false fun v => v.setStream 0 { v.stream 0 with delivery := .ordered }

theorem stepCases_readers (k : Fin 6) : (stepCases k).ReadersOk :=
  ⟨by revert k; decide +kernel, by revert k; decide +kernel, by revert k; decide +kernel, by revert k; decide +kernel⟩

theorem pickCases_readers (k : Fin 6) : (pickCases k).ReadersOk :=
  ⟨by revert k; decide +kernel, by revert k; decide +kernel, by revert k; decide +kernel, by revert k; decide +kernel⟩

theorem witness_FrameStartHoldsAndLatches_steps :
    let fits := fun v : Video => (v.stream 0).bpp = (v.port (portOf 0)).bpp ∧
      (v.window 0).x0 + (v.window 0).w ≤ (v.stream 0).width ∧ (v.window 0).y0 + (v.window 0).h ≤ (v.stream 0).height
    (∀ k : Fin 6, ((stepCases k).window 0).state ≠ .clear ∧ ((stepCases k).window 0).stream = some 0) ∧
    ((stepCases 0).stream 0).live = false ∧ (∀ k : Fin 6, 0 < k → ((stepCases k).stream 0).live = true) ∧
    (¬ fits (stepCases 1) ∧ ¬ fits (stepCases 2) ∧ ∀ k : Fin 6, 2 < k → fits (stepCases k)) ∧
    (((stepCases 1).window 0).state ≠ .mismatch ∧ ((stepCases 2).window 0).state = .mismatch ∧
      ((stepCases 3).window 0).state = .mismatch) ∧
    (((stepCases 4).window 0).state = .showing ∧ ((stepCases 4).window 0).current ≠ none ∧
      min 15 (((stepCases 4).window 0).shown + 1) < ((stepCases 4).window 0).holdTarget) ∧
    (((stepCases 5).window 0).state = .showing ∧ ((stepCases 5).window 0).guard = 0 ∧
      ((stepCases 5).window 0).holdTarget ≤ min 15 (((stepCases 5).window 0).shown + 1) ∧
      ((stepCases 5).window 0).current = some 0 ∧
      seqNewer ((stepCases 5).stream 0).newest ((stepCases 5).window 0).readySeq = false) := by
  decide +kernel

/-- A chase guard with nothing to chase: no fill target, one with fewer lines than the guard, and a host stream. -/
theorem witness_FrameStartHoldsAndLatches_guard :
    ∀ k : Fin 3,
      let v := windowAs .showing true fun v =>
        let v := v.setWindow 0 { v.window 0 with shown := 1, guard := 4 }
        if k = 0 then v.setStream 0 { v.stream 0 with fillTarget := none }
        else if k = 1 then v
        else
          (v.setStream 0 { v.stream 0 with source := some .host }).setSlot 1 { v.slot 1 with committed := 16 }
      let x := v.window 0
      let y := v.stream 0
      x.state = .showing ∧ x.stream = some 0 ∧ y.live = true ∧ y.delivery = .newest ∧ x.guard ≠ 0 ∧
        x.holdTarget ≤ min 15 (x.shown + 1) ∧
        (y.fillTarget = none ∨ (v.slot 1).committed < x.guard ∨ y.source = some .host) := by
  decide +kernel

theorem witness_FrameStartHoldsAndLatches_picks :
    let x := fun k : Fin 6 => (pickCases k).window 0
    let y := fun k : Fin 6 => (pickCases k).stream 0
    let owed := fun (k : Fin 6) (i : SlotId) =>
      ((pickCases k).slot i).state = .ready ∧ winHas ((pickCases k).slot i).owed 0 = true
    (∀ k : Fin 6, (x k).state = .idle ∧ (x k).stream = some 0 ∧ (y k).live = true ∧ (x k).guard = 0 ∧
      (x k).current = none ∧ (y k).bpp = ((pickCases k).port (portOf 0)).bpp ∧ (x k).x0 + (x k).w ≤ (y k).width ∧
      (x k).y0 + (x k).h ≤ (y k).height) ∧
    (∀ k : Fin 6, k < 3 → (y k).delivery = .newest) ∧
    ((pickCases 0).newestReady 0 = some 0 ∧ seqNewer (y 0).newest (x 0).readySeq = true) ∧
    ((pickCases 1).newestReady 0 = none ∧ (x 1).readySeq = 0) ∧
    (seqNewer (y 2).newest (x 2).readySeq = false ∧ (x 2).readySeq ≠ 0 ∧
      (pickCases 2).readyWith 0 (x 2).readySeq = some 0) ∧
    (∀ k : Fin 6, 2 < k → (y k).delivery = .ordered) ∧
    ((x 3).readySeq = 0 ∧ (pickCases 3).newestReady 0 = some 0) ∧
    ((x 4).readySeq ≠ 0 ∧ (2 : SlotId) ∈ (y 4).pool ∧ owed 4 2 ∧ owed 4 0 ∧
      ∀ j ∈ (y 4).pool, owed 4 j → j ≠ 2 → seqNewer ((pickCases 4).slot j).seq ((pickCases 4).slot 2).seq = true) ∧
    ((x 5).readySeq ≠ 0 ∧ ∀ i ∈ (y 5).pool, ¬ owed 5 i) := by
  dsimp only
  refine ⟨?_, ?_, ?_, ?_, ?_, ?_, ?_, ⟨?_, ?_, ?_, ?_, ?_⟩, ?_⟩ <;> decide +kernel

theorem witness_NewestNeverGoesBack :
    (demoVideo.window 0).stream = some 0 ∧ (demoVideo.stream 0).delivery = .newest ∧
    (demoVideo.window 0).state ≠ .chasing := by decide +kernel

/-- The guard meets the committed lines of slot 1, and exceeds them by one. -/
theorem witness_ChaseDecision :
    demoVideo.ReadersOk ∧
    (∀ g : Fin 5, let v := demoVideo.setWindow 0 { demoVideo.window 0 with guard := g.val };
      (v.window 0).state = .showing ∧ (v.window 0).stream = some 0 ∧ (v.stream 0).live = true ∧
        (v.stream 0).delivery = .newest ∧ (v.stream 0).bpp = (v.port (portOf 0)).bpp ∧
        (v.window 0).x0 + (v.window 0).w ≤ (v.stream 0).width ∧
        (v.window 0).y0 + (v.window 0).h ≤ (v.stream 0).height ∧ (v.stream 0).fillTarget = some 1 ∧
        (v.slot 1).state = .filling ∧ (v.window 0).current ≠ some 1 ∧
        (v.window 0).holdTarget ≤ min 15 ((v.window 0).shown + 1) ∧
        ((v.windowFrameStart 0).window 0).state = if 1 ≤ g.val ∧ g.val ≤ 3 then .chasing else .showing) :=
  ⟨demo_readers, by decide +kernel⟩

/-- Window 0 chases slot 1, with slot 0 as its fallback or with none. -/
def chasingVideo (fallback : Option SlotId) : Video :=
  ((demoVideo.setWindow 0
        { demoVideo.window 0 with state := .chasing, current := some 1, fallback := fallback, guard := 2 }).setSlot 1
      { demoVideo.slot 1 with readers := 1, seen := true }).setSlot 0
    { demoVideo.slot 0 with readers := if fallback = some 0 then 1 else 0 }

theorem witness_ForcedFallback :
    ∀ b : Bool, let v := chasingVideo (if b then some 0 else none);
      (v.slot 1).owner = some 0 ∧ (v.slot 1).state = .filling ∧ (v.slot 1).leaving = false ∧
        (v.slot 1).readers = winBit 0 ∧ (v.window 0).state = .chasing ∧ (v.window 0).current = some 1 := by
  decide +kernel

/-- OUT0 has line 3 of window 0 granted in full, line 4 with a read still pending and line 5 marked BORDER. -/
theorem witness_ForcedFallback_stores :
    let part := fun m : Mark => Vector.ofFn fun l : Layer => if l = 0 then { StorePart.blank with mark := some m } else StorePart.blank
    let v := (chasingVideo none).setPort 0
      { demoVideo.port 0 with
        pendingReads := [{ layer := 0, line := 4, srcLine := 2, burst := 0, slot := 1 }]
        stores := Vector.ofFn fun k : Fin 4 =>
          if k = 0 then LineStore.free
          else { line := some (k.val + 2), parts := part (if k = 3 then .border else .fetch) } }
    (v.slot 1).readers = winBit 0 ∧ (v.window 0).state = .chasing ∧ (v.window 0).current = some 1 ∧
      (v.window 0).fallback = none ∧ ((v.port 0).stores[(1 : Fin 4)].parts[(0 : Layer)]).mark = some .fetch ∧
      (v.port 0).stores[(2 : Fin 4)].line = some 4 ∧ (v.slot 1).leaving = false := by
  decide +kernel

/-- Windows 0 and 1 chase slot 1, the first with slot 0 as its fallback, the second with none; the frame is FILLING,
or it is COMPLETING with a damage the stream discards, in a slot that is leaving. -/
def chasedTwice (completing : Bool) : Video :=
  let v := chasingVideo (some 0)
  let v := v.setWindow 1 { Window.reset with state := .chasing, stream := some 0, current := some 1, guard := 2 }
  (v.setSlot 1
      { v.slot 1 with
        state := if completing then .completing else .filling, readers := 3, damage := 2, leaving := completing }).setStream 0
    { v.stream 0 with discardMask := 2 }

theorem chasedTwice_readers (completing : Bool) : (chasedTwice completing).ReadersOk :=
  ⟨by revert completing; decide +kernel, by revert completing; decide +kernel, by revert completing; decide +kernel,
    by revert completing; decide +kernel⟩

theorem chasedTwice_custody (completing : Bool) : (chasedTwice completing).CustodyOk :=
  ⟨by revert completing; decide +kernel, by revert completing; decide +kernel, by revert completing; decide +kernel,
    by revert completing; decide +kernel, by revert completing; decide +kernel⟩

theorem witness_FramesGivenUp_chased :
    ∀ completing : Bool,
      let v := chasedTwice completing
      let sl := v.slot 1
      v.ReadersOk ∧ v.CustodyOk ∧ sl.owner = some 0 ∧ (v.stream 0).live = true ∧
        sl.state = (if completing then .completing else .filling) ∧ sl.leaving = completing ∧
        sl.damage &&& (v.stream 0).discardMask ≠ 0 ∧ (winHas sl.readers 0 = true ∧ winHas sl.readers 1 = true) ∧
        ∀ j : SlotId, (v.slot j).owed = 0 :=
  fun completing =>
    ⟨chasedTwice_readers completing, chasedTwice_custody completing, by revert completing; decide +kernel⟩

/-- A chased frame that was published, that is COMPLETING while the hold lasts, and that is still the fill target. -/
def chaseCases : Fin 3 → Video
  | 0 =>
    let v := chasingVideo (some 0)
    (v.setSlot 1 { v.slot 1 with state := .ready }).setStream 0 { v.stream 0 with newest := 6, fillTarget := none }
  | 1 =>
    let v := chasingVideo none
    (v.setSlot 1 { v.slot 1 with state := .completing }).setWindow 0 { v.window 0 with holdTarget := 15, shown := 13 }
  | 2 => chasingVideo (some 0)

theorem chaseCases_readers (k : Fin 3) : (chaseCases k).ReadersOk :=
  ⟨by revert k; decide +kernel, by revert k; decide +kernel, by revert k; decide +kernel, by revert k; decide +kernel⟩

theorem witness_ChaseDecision_kept :
    let x := fun k : Fin 3 => (chaseCases k).window 0
    let y := fun k : Fin 3 => (chaseCases k).stream 0
    let holds := fun k : Fin 3 => min 15 ((x k).shown + 1) < (x k).holdTarget
    (∀ k : Fin 3, (x k).state = .chasing ∧ (x k).stream = some 0 ∧ (x k).current = some 1 ∧ (y k).live = true ∧
      (y k).delivery = .newest ∧ (y k).bpp = ((chaseCases k).port (portOf 0)).bpp ∧
      (x k).x0 + (x k).w ≤ (y k).width ∧ (x k).y0 + (x k).h ≤ (y k).height) ∧
    (((chaseCases 0).slot 1).state = .ready ∧ ¬ holds 0 ∧ (y 0).fillTarget = none ∧
      seqNewer (y 0).newest ((chaseCases 0).slot 1).seq = false) ∧
    (((chaseCases 1).slot 1).state = .completing ∧ holds 1) ∧
    (((chaseCases 2).slot 1).state = .filling ∧ ¬ holds 2 ∧ (y 2).fillTarget = some 1 ∧
      seqNewer (y 2).newest ((chaseCases 2).slot 1).seq = false) := by
  decide +kernel

theorem witness_NewestNeverGoesBack_chasing :
    ∀ k : Fin 3, (chaseCases k).ReadersOk ∧ ((chaseCases k).window 0).stream = some 0 ∧
      ((chaseCases k).stream 0).delivery = .newest ∧ ((chaseCases k).window 0).state = .chasing ∧
      ((chaseCases k).window 0).current = some 1 :=
  fun k => ⟨chaseCases_readers k, by revert k; decide +kernel⟩

/-- Window 0 chases slot 1, sequence 6, its hold ended: slot 1 still COMPLETING or published, while slot 2 is filled
with sequence 7, its committed lines just reaching the guard or one short of it. -/
def chaseAgain (published atGuard : Bool) : Video :=
  let v := chasingVideo (some 0)
  let v := v.setSlot 1 { v.slot 1 with state := if published then .ready else .completing }
  (v.setSlot 2 { v.slot 2 with state := .filling, seq := 7, committed := if atGuard then 2 else 1 }).setStream 0
    { v.stream 0 with newest := if published then 6 else 5, fillTarget := some 2, nextSeq := 8 }

/-- Window 0 chases slot 1, sequence 6, its hold ended, while slot 2 is the newest READY frame, sequence 7. -/
def chaseOvertaken (published : Bool) : Video :=
  let v := chaseAgain published true
  (v.setSlot 2 { v.slot 2 with state := .ready }).setStream 0 { v.stream 0 with newest := 7, fillTarget := none }

theorem chaseAgain_readers (published atGuard : Bool) : (chaseAgain published atGuard).ReadersOk :=
  ⟨by revert published atGuard; decide +kernel, by revert published atGuard; decide +kernel,
    by revert published atGuard; decide +kernel, by revert published atGuard; decide +kernel⟩

theorem chaseOvertaken_readers (published : Bool) : (chaseOvertaken published).ReadersOk :=
  ⟨by revert published; decide +kernel, by revert published; decide +kernel, by revert published; decide +kernel,
    by revert published; decide +kernel⟩

theorem witness_ChaseDecision_again :
    ∀ published atGuard : Bool,
      let v := chaseAgain published atGuard
      let x := v.window 0
      let y := v.stream 0
      (x.state = .chasing ∧ x.stream = some 0 ∧ x.current = some 1 ∧ y.live = true ∧ y.delivery = .newest ∧
        y.bpp = (v.port (portOf 0)).bpp ∧ x.x0 + x.w ≤ y.width ∧ x.y0 + x.h ≤ y.height) ∧
      x.holdTarget ≤ min 15 (x.shown + 1) ∧ (v.slot 1).state = (if published then .ready else .completing) ∧
      (y.fillTarget = some 2 ∧ (v.slot 2).state = .filling ∧ x.guard ≠ 0 ∧ y.source = some (.input 0) ∧
        (x.guard ≤ (v.slot 2).committed ↔ atGuard = true) ∧ seqNewer (v.slot 2).seq (v.slot 1).seq = true ∧
        seqNewer (v.slot 2).seq x.readySeq = true) := by
  decide +kernel

theorem witness_ChaseDecision_overtaken :
    ∀ published : Bool,
      let v := chaseOvertaken published
      let x := v.window 0
      let y := v.stream 0
      (x.state = .chasing ∧ x.stream = some 0 ∧ x.current = some 1 ∧ y.live = true ∧ y.delivery = .newest ∧
        y.bpp = (v.port (portOf 0)).bpp ∧ x.x0 + x.w ≤ y.width ∧ x.y0 + x.h ≤ y.height) ∧
      x.holdTarget ≤ min 15 (x.shown + 1) ∧ (v.slot 1).state = (if published then .ready else .completing) ∧
      y.fillTarget = none ∧ v.newestReady 0 = some 2 ∧ seqNewer y.newest (v.slot 1).seq = true := by
  decide +kernel

theorem chase_pools (k : Fin 3) (published : Bool) :
    (chaseCases k).PoolsOk ∧ (chaseAgain published true).PoolsOk ∧ (chaseAgain published false).PoolsOk ∧
      (chaseOvertaken published).PoolsOk := by
  have member : ∀ (k : Fin 6) (i : SlotId) (st : StreamId),
      let v := match k with
        | 0 => chaseCases 0
        | 1 => chaseCases 1
        | 2 => chaseCases 2
        | 3 => chaseAgain published true
        | 4 => chaseAgain published false
        | 5 => chaseOvertaken published
      (i ∈ (v.stream st).pool ↔ (v.slot i).owner = some st) ∧ ((v.slot i).owner = none ↔ (v.slot i).state = .spare) := by
    revert published
    decide +kernel
  have pool : ∀ (k : Fin 6) (st : StreamId),
      let v := match k with
        | 0 => chaseCases 0
        | 1 => chaseCases 1
        | 2 => chaseCases 2
        | 3 => chaseAgain published true
        | 4 => chaseAgain published false
        | 5 => chaseOvertaken published
      (v.stream st).pool.Nodup ∧ (v.stream st).pool.length ≤ 8 ∧
        ((v.stream st).state = .closed → (v.stream st).pool = []) := by
    revert published
    decide +kernel
  have ok : ∀ v : Video,
      (∀ (i : SlotId) (st : StreamId), (i ∈ (v.stream st).pool ↔ (v.slot i).owner = some st) ∧
        ((v.slot i).owner = none ↔ (v.slot i).state = .spare)) →
      (∀ st : StreamId, (v.stream st).pool.Nodup ∧ (v.stream st).pool.length ≤ 8 ∧
        ((v.stream st).state = .closed → (v.stream st).pool = [])) → v.PoolsOk :=
    fun v h h' => ⟨fun i => (h i 0).2, fun i st => (h i st).1, fun st => (h' st).1, fun st => (h' st).2.1,
      fun st => (h' st).2.2⟩
  refine ⟨?_, ok _ (member 3) (pool 3), ok _ (member 4) (pool 4), ok _ (member 5) (pool 5)⟩
  match k with
  | 0 => exact ok _ (member 0) (pool 0)
  | 1 => exact ok _ (member 1) (pool 1)
  | 2 => exact ok _ (member 2) (pool 2)

/-- The frame in progress is in a slot that is leaving, and in one that window 0 chases. -/
theorem witness_StopNowResult_leaving_and_chased :
    (let s := demoWith fun v => v.setSlot 1 { v.slot 1 with leaving := true };
      LinkFree s ∧ (s.video.stream 0).state = .running ∧ s.video.fillingOf 0 = some 1 ∧
        (s.video.slot 1).owner = some 0 ∧ (s.video.slot 1).readers = 0 ∧ (s.video.slot 1).leaving = true) ∧
    (∀ b : Bool, let s := { demo with video := chasingVideo (if b then some 0 else none) };
      LinkFree s ∧ (s.video.stream 0).state = .running ∧ s.video.fillingOf 0 = some 1 ∧
        (s.video.slot 1).owner = some 0 ∧ (s.video.slot 1).readers ≠ 0) := by
  refine ⟨⟨linkFree_of rfl, ?_⟩, fun b => ⟨linkFree_of rfl, ?_⟩⟩
  · decide +kernel
  · revert b; decide +kernel

/-- The fetcher of OUT0 begins a line: the read it adds is one the statement speaks of. -/
theorem witness_FetchOnlyCommitted :
    let r : PendingRead := { layer := 0, line := 0, srcLine := 0, burst := 0, slot := 0 };
    r ∈ ((demoVideo.pump 0).port 0).pendingReads ∧ r ∉ (demoVideo.port 0).pendingReads := by decide +kernel

theorem witness_InputFrameStarts :
    (demo.channel.draining = false ∧ (demo.video.input 3).state = .unbound) ∧
    ((demoStates .opened .bound).video.input 0).state = .bound ∧
    (let s := demoWith fun v => (v.setInput 1 { Ingest.reset with state := .lost, stream := some 1 }).setStream 1
        { v.stream 1 with source := some (.input 1) };
      (s.video.input 1).stream = some 1 ∧ (s.video.input 1).state = .lost ∧
        (∀ u : PortId, (s.video.lock u).state = .unlocked ∨ (s.video.lock u).refStream ≠ 1) ∧
        ((s.video.raise (streamEntry 1) 2).take 1).2 = .taken 3 1) ∧
    (let s := demoWith fun v => (v.setInput 1 { Ingest.reset with state := .armed, stream := some 1 }).setStream 1
        { v.stream 1 with source := some (.input 1), pool := [] };
      (s.video.input 1).state = .armed ∧ (s.video.take 1).2 = .noTarget) := by decide +kernel

/-- A frame start at a CAPTURING port, with a stop pending or not, and no chase wait. -/
theorem witness_InputFrameStarts_capturing :
    (∀ b : Bool, let s := demoWith fun v => v.setInput 0 { v.input 0 with stopPending := b };
      s.channel.draining = false ∧ (s.video.input 0).state = .capturing ∧ (s.video.input 0).stream = some 0 ∧
        (s.video.input 0).target = some (1, 6) ∧ (s.video.input 0).stopPending = b) ∧
    (∀ u : PortId, (demo.video.port u).wait = none) ∧
    (match exec (.inputFrameEnd 0) demo with | .next t => t.video.fillingOf 0 | _ => some 0) = none := by
  decide +kernel

/-- IN0 with a line open and `k` bytes in the packer. -/
def openLine (k : Nat) : Video :=
  demoVideo.setInput 0
    { demoVideo.input 0 with
      lineOpen := true, packer := List.replicate k 0
      frames :=
        [{ slot := 1, seq := 6, ended := false, commitPoint := 3
           lines := [{ line := 3, ended := false, outstanding := 0 }] }] }

theorem witness_LinesPixelsAndBursts :
    (demo.channel.draining = false ∧ (demo.video.input 0).state = .capturing ∧ (demo.video.input 0).stream = some 0 ∧
      (demo.video.input 0).target = some (1, 6) ∧ (demo.video.input 0).lineOpen = false) ∧
    (∀ k : Fin 64, ((openLine k).input 0).lineOpen = true ∧ (((openLine k).input 0).packer.length + 2 < 64 ↔ k.val < 62)) ∧
    (((openLine 0).input 0).packer = [] ∧ ((openLine 0).input 0).lineIndex < ((openLine 0).stream 0).height ∧
      ((openLine 0).slot 1).state = .filling ∧ ((openLine 0).slot 1).seq = 6 ∧ ((openLine 0).slot 1).committed = 3 ∧
      ((openLine 0).input 0).lineIndex = 3) ∧
    ((demoVideo.stream 0).height ≤ 16 ∧ (15 < (demoVideo.stream 0).height) ∧
      ((demoVideo.stream 0).width * (demoVideo.stream 0).bpp + 63) / 64 = 1) ∧
    32 ≤ (List.replicate 32 ({ tag := aTag, data := aBurst } : BurstEntry)).length ∧ (demoVideo.input 0).fifo.length < 32 := by
  decide +kernel

/-- A line that ends behind an older frame: with no burst accepted, with one outstanding, and the line at the height. -/
theorem witness_LinesPixelsAndBursts_line_ends :
    let old : FrameEntry := { slot := 0, seq := 5, ended := true, commitPoint := 0, lines := [] }
    let g := fun (line : Nat) (lines : List LineRec) =>
      { (openLine 0).input 0 with
        lineIndex := line, frames := [old, { slot := 1, seq := 6, ended := false, commitPoint := line, lines := lines }] }
    (demo.channel.draining = false ∧ ((openLine 5).input 0).packer ≠ [] ∧ ((openLine 5).input 0).lineOpen = true) ∧
    ((g 16 []).state = .capturing ∧ (g 16 []).stream = some 0 ∧ (g 16 []).target = some (1, 6) ∧
      (g 16 []).lineOpen = true ∧ (g 16 []).packer = [] ∧ ((openLine 0).slot 1).state = .filling ∧
      ((openLine 0).slot 1).seq = 6 ∧ (∀ e ∈ [old], ¬(e.slot = 1 ∧ e.seq = 6))) ∧
    (((openLine 0).stream 0).height ≤ 16 ∧ 15 < ((openLine 0).stream 0).height) ∧
    (∀ n : Fin 2, (g 15 [{ line := 15, ended := false, outstanding := n.val }]).frames =
      [old] ++ [{ slot := 1, seq := 6, ended := false, commitPoint := 15
                  lines := [{ line := (g 15 []).lineIndex, ended := false, outstanding := n.val }] }]) := by
  decide +kernel

/-- Line 15 ends with line 14 ended before it, its last burst outstanding or not, and with line 16 beyond the height. -/
theorem witness_LinesPixelsAndBursts_earlier_lines :
    ∀ n : Fin 2,
      let pre : List LineRec := [{ line := 14, ended := true, outstanding := n.val }]
      let post : List LineRec := [{ line := 16, ended := true, outstanding := 0 }]
      let lines := pre ++ { line := 15, ended := true, outstanding := 0 } :: post
      let whole := fun k : Nat => k < ((openLine 0).stream 0).height ∧ { line := k, ended := true, outstanding := 0 } ∈ lines
      let point := if n = 0 then 16 else 14
      let entry : FrameEntry :=
        { slot := 1, seq := 6, ended := false, commitPoint := 14
          lines := pre ++ { line := 15, ended := false, outstanding := 0 } :: post };
      let g := { (openLine 0).input 0 with lineIndex := 15, frames := [entry] };
      (g.lineOpen = true ∧ g.packer = [] ∧ g.frames = [] ++ [entry] ∧ ((openLine 0).slot 1).state = .filling ∧
        ((openLine 0).slot 1).seq = 6) ∧
      (lines.map LineRec.line).Nodup ∧ entry.commitPoint ≤ point ∧
      (∀ k < point, entry.commitPoint ≤ k → whole k) ∧ ¬ whole point := by
  decide +kernel

/-- The frame of IN0 about to end, with nothing of it queued and no READY frame, and with a burst queued. -/
theorem witness_InputFrameEnds :
    let v := demoVideo.setSlot 0 { Slot.reset with owner := some 0, state := .empty };
    (demo.channel.draining = false ∧ (v.input 0).state = .capturing ∧ (v.input 0).stream = some 0 ∧
      (v.input 0).target = some (1, 6) ∧ (v.input 0).stopPending = false ∧ (v.input 0).lineOpen = false ∧
      (v.input 0).frames = [{ slot := 1, seq := 6, ended := false, commitPoint := (v.slot 1).committed, lines := [] }] ∧
      (v.slot 1).state = .filling ∧ (v.slot 1).seq = 6 ∧ (v.slot 1).owner = some 0) ∧
    ((v.input 0).fifo = [] ∧ (2 : DamageSet) &&& (v.stream 0).discardMask = 0 ∧ v.newestReady 0 = none ∧
      (v.stream 0).delivery = .newest ∧ ∀ u : PortId, (v.port u).wait = none) ∧
    ∃ b ∈ [({ tag := aTag, data := aBurst } : BurstEntry)], b.tag.slot = 1 ∧ b.tag.seq = 6 := by decide +kernel

/-- A frame end with a line open, one with a stop pending and the old newest frame's slot leaving, and one with nothing
left but an orphan of the same slot and sequence. -/
theorem witness_InputFrameEnds_more :
    (demo.channel.draining = false ∧ ((openLine 0).input 0).lineOpen = true ∧
      ∀ u : PortId, ((openLine 0).port u).wait = none) ∧
    (let g := { demoVideo.input 0 with stopPending := true, orphans := 1 };
      let flying : List Transfer := [.ingestWrite 0 0 aTag aBurst];
      g.lineOpen = false ∧ g.state = .capturing ∧ g.stream = some 0 ∧ g.target = some (1, 6) ∧
        g.frames = [{ slot := 1, seq := 6, ended := false, commitPoint := (demoVideo.slot 1).committed, lines := [] }] ∧
        (demoVideo.slot 1).state = .filling ∧ (demoVideo.slot 1).seq = 6 ∧ (demoVideo.slot 1).owner = some 0 ∧
        ¬((∃ b ∈ g.fifo, b.tag.slot = 1 ∧ b.tag.seq = 6) ∨ ∃ t ∈ g.ownWrites 0 flying, t.isOf 0 1 6 = true) ∧
        ∃ t ∈ ({ g with orphans := 0 } : Ingest).ownWrites 0 flying, t.isOf 0 1 6 = true) := by
  decide +kernel

/-- IN0 at the end of slot 1's frame, with lines of it still to be committed and one beyond the height, and with an older
frame of slot 2 before it or not, whose burst is in the FIFO or none is. -/
def endingFrame (older olderLeft ownLeft : Bool) : Video :=
  let old : FrameEntry :=
    { slot := 2, seq := 4, ended := true, commitPoint := 15, lines := [{ line := 15, ended := true, outstanding := 1 }] }
  let entry : FrameEntry :=
    { slot := 1, seq := 6, ended := false, commitPoint := 2
      lines :=
        [{ line := 2, ended := true, outstanding := if ownLeft then 1 else 0 }, { line := 16, ended := true, outstanding := 0 }] }
  let burst : BurstTag → List BurstEntry := fun tag => [{ tag := tag, data := aBurst }]
  demoVideo.setInput 0
    { demoVideo.input 0 with
      frames := (if older then [old] else []) ++ [entry]
      fifo :=
        (if olderLeft then burst { slot := 2, seq := 4, line := 15, burst := 0 } else []) ++
          if ownLeft then burst aTag else [] }

theorem witness_InputFrameEnds_outstanding :
    ∀ older olderLeft ownLeft : Bool,
      let g := (endingFrame older olderLeft ownLeft).input 0
      let left := fun e : FrameEntry =>
        (∃ b ∈ g.fifo, b.tag.slot = e.slot ∧ b.tag.seq = e.seq) ∨ ∃ t ∈ g.ownWrites 0 [], t.isOf 0 e.slot e.seq = true
      g.state = .capturing ∧ g.stream = some 0 ∧ g.target = some (1, 6) ∧ g.lineOpen = false ∧
        g.frames = g.frames.dropLast ++ g.frames.drop (g.frames.length - 1) ∧
        (∀ e ∈ g.frames.dropLast, ¬(e.slot = 1 ∧ e.seq = 6)) ∧
        (∀ e ∈ g.frames.drop (g.frames.length - 1),
          e.slot = 1 ∧ e.seq = 6 ∧ e.lines ≠ [] ∧ (left e ↔ ownLeft = true)) ∧
        (∀ e ∈ g.frames.dropLast, older = true ∧ e.ended = true ∧ (left e ↔ olderLeft = true)) := by
  decide +kernel

theorem witness_LossTimeouts :
    (demo.channel.draining = false ∧ (demo.video.input 0).stream = some 0 ∧ (demo.video.input 0).stopPending = false ∧
      (∀ u : PortId, (demo.video.lock u).state = .unlocked ∨ (demo.video.lock u).refStream ≠ 0) ∧
      (demo.video.input 0).lossTimer ≠ none ∧ (demo.video.input 0).target = some (1, 6) ∧
      (demo.video.slot 1).state = .filling ∧ (demo.video.slot 1).seq = 6 ∧ (demo.video.slot 1).owner = some 0 ∧
      (demo.video.slot 1).readers = 0 ∧ (demo.video.slot 1).leaving = false) ∧
    (Ingest.reset.lossTimer = none ∧ Ingest.reset.stopPending = false) ∧
    ((demoStates .running .skipping).video.input 0).state = .skipping := by decide +kernel

/-- An empty queue while the channel drains, with no timer due, and with the timer of IN0 due, the others not running. -/
theorem witness_LossTimeouts_millisecond :
    let due := fun (s : State) (u : PortId) =>
      let g := s.video.input u
      (g.state = .armed ∨ g.state = .capturing ∨ g.state = .skipping) ∧ g.lossTimer.any (fun k => g.lossTimeout ≤ k + 1)
    let late := demoWith fun v => v.setInput 0 { v.input 0 with lossTimer := some 99 }
    ((draining []).pending = [] ∧ (draining []).channel.draining = true) ∧
    (demo.pending = [] ∧ demo.channel.draining = false ∧ ∀ u : PortId, ¬ due demo u) ∧
    (late.pending = [] ∧ late.channel.draining = false ∧ due late 0 ∧ (late.video.input 0).lossTimeout = 100 ∧
      ∀ u : PortId, u ≠ 0 → (late.video.input u).state = .unbound) := by decide +kernel

/-- A stop pending at a loss, and a lock unit that follows the lost stream. -/
theorem witness_LossTimeouts_stop_and_lock :
    (let g := { demoVideo.input 0 with stopPending := true };
      g.stream = some 0 ∧ g.lossTimer ≠ none ∧ g.state = .capturing ∧ g.target = some (1, 6)) ∧
    ((demoStates .stopping .armed).video.input 0).state = .armed ∧ ((demoStates .stopping .armed).video.input 0).lossTimer ≠ none ∧
    (demoVideo.stream 0).state = .running ∧ ((demoVideo.setLock 0 { LockUnit.reset with state := .locked }).lock 0).refStream = 0 := by
  decide +kernel

/-- The frame that is lost is chased by two windows. -/
theorem witness_LossTimeouts_chased :
    let v := chasedTwice false
    let g := v.input 0
    g.stream = some 0 ∧ g.lossTimer ≠ none ∧ g.state = .capturing ∧ g.target = some (1, 6) ∧
      (v.slot 1).state = .filling ∧ (v.slot 1).seq = 6 ∧ (v.slot 1).owner = some 0 ∧ (v.slot 1).readers ≠ 0 := by
  decide +kernel

theorem witness_IngestKept : (fronted .grant demo).video.GeometryOk ∧
    (∀ p : PortId, ((fronted .grant demo).video.input p).FifoOk) ∧ ∃ t, step (fronted .grant demo) = .next t :=
  ⟨demo_geometry, demo_fifos, _, rfl⟩

theorem witness_PortCommands :
    LinkFree demo ∧ (demo.video.port 2).on = false ∧ (demo.video.port 0).on = true ∧
    ((demo.video.port 1).on = false ∧ (demo.video.port 1).timingValid = true ∧ demo.channel.cal = .ready) ∧
    ((4096 : BitVec 16).toNat ≤ 4096 ∧ (255 : Byte).toNat + (4096 : BitVec 16).toNat + 1 ≤ (4352 : BitVec 16).toNat ∧
      (8191 : BitVec 16).toNat ≤ 8191 ∧ (4096 : BitVec 16).toNat + 16 ≤ (4112 : BitVec 16).toNat) :=
  ⟨demo_free, by decide +kernel⟩

/-- OUT0 with the line counter at `n` and the fetcher at line `f`. -/
def atLine (n : Nat) (f : Option Nat) : State :=
  demoWith fun v => v.setPort 0 { v.port 0 with lineCounter := n, fetchLine := f }

/-- The lines of OUT0: 0 and 1 top blank, 2 to 17 active, 18 bottom blank, and a longer frame for the rest. -/
theorem witness_LineStarts :
    (∀ n : Fin 20, (atLine n (some 15)).channel.draining = false ∧ ((atLine n (some 15)).video.port 0).on = true) ∧
    (demo.video.port 2).on = false ∧
    (let pt := (atLine 0 none).video.port 0;
      pt.lineCounter + 1 < pt.frameTotal ∧ pt.lineCounter + 1 < pt.topBlank) ∧
    (let pt := { (atLine 18 none).video.port 0 with frameTotal := 21 };
      pt.lineCounter + 1 < pt.frameTotal ∧ pt.topBlank + pt.activeLines < pt.lineCounter + 1) ∧
    (let pt := (atLine 17 none).video.port 0;
      pt.lineCounter + 1 < pt.frameTotal ∧ pt.lineCounter + 1 = pt.topBlank + pt.activeLines ∧ 1 ≤ pt.activeLines) ∧
    (let pt := (atLine 16 (some 15)).video.port 0;
      pt.lineCounter + 1 < pt.frameTotal ∧ pt.lineCounter + 1 = pt.topBlank + 15 ∧ 15 < pt.activeLines) ∧
    (let pt := (atLine 18 none).video.port 0; pt.frameTotal ≤ pt.lineCounter + 1) := by decide +kernel

/-- A line store that holds line 0 of window 0's picture, whole or with nothing arrived. -/
def painted (current : Option SlotId) (mark : Mark) (bursts : List (Nat × Burst)) : Video :=
  (demoVideo.setWindow 0 { demoVideo.window 0 with current := current }).setPort 0
    { demoVideo.port 0 with
      stores := Vector.ofFn fun k =>
        if k = 1 then
          { line := some 0
            parts := Vector.ofFn fun l =>
              if l = 0 then { mark := some mark, bursts := bursts, kept := false } else StorePart.blank }
        else LineStore.free }

theorem witness_ComposedPixels :
    (∀ l : Layer, (Video.reset.window (winOf 0 l)).state = .clear) ∧
    (let v := painted (some 0) .fetch [(0, aBurst)];
      let x := v.window (winOf 0 0);
      (x.state ≠ .clear ∧ x.dy ≤ 0 ∧ 0 < x.dy + x.h * x.vrep ∧ x.dx ≤ 15 ∧ 15 < x.dx + x.w * x.hrep) ∧
        (∀ m : Layer, 0 < m → (v.window (winOf 0 m)).state = .clear) ∧ (v.port 0).storeOf 0 = some 1 ∧
        x.stream = some 0 ∧ x.current ≠ none ∧ ((v.port 0).stores[1].parts[0]).mark = some .fetch ∧
        (∀ n < (v.stream 0).bpp, ((v.port 0).stores[1].parts[0]).byte? (15 * 2 + n) ≠ none) ∧ (v.stream 0).bpp ≤ 4) ∧
    (let v := painted (some 0) .fetch []; ∃ n < (v.stream 0).bpp, ((v.port 0).stores[1].parts[0]).byte? (15 * 2 + n) = none) ∧
    (let v := painted (some 0) .border []; ((v.port 0).stores[1].parts[0]).mark = some .border) ∧
    (let v := painted none .fetch [];
      (v.window 0).current = none ∧ ((v.port 0).stores[1].parts[0]).kept = false) := by decide +kernel

/-- Line stores that hold the line whose emission ends, before the first bottom blank line and before line 15. -/
theorem witness_LineStarts_stores :
    let pt := (painted (some 0) .fetch [(0, aBurst)]).port 0
    let lineAt := fun y : Nat => { pt with stores := Vector.ofFn fun k => if k = 1 then { pt.stores[1] with line := some y } else LineStore.free }
    (lineAt 15).storeOf (pt.activeLines - 1) = some 1 ∧ (lineAt 14).storeOf (15 - 1) = some 1 ∧
    ∀ k : Fin 4, k ≠ 1 → (lineAt 15).stores[k].line ≠ some (pt.activeLines - 1) := by decide +kernel

/-- A part that the fetcher never reached, a line that has no store, and one that a forced switch left granted in
full. -/
theorem witness_ComposedPixels_more :
    (let v := (painted (some 0) .fetch []).setPort 0
        { demoVideo.port 0 with stores := Vector.ofFn fun k => if k = 1 then { LineStore.free with line := some 0 } else LineStore.free };
      (v.port 0).storeOf 0 = some 1 ∧ (v.window 0).current ≠ none ∧ ((v.port 0).stores[1].parts[0]).mark = none) ∧
    (∀ b : Bool, let v := painted (if b then some 0 else none) .fetch [];
      (v.port 0).storeOf 1 = none ∧ v.topLayer 0 1 15 = some 0) ∧
    (let v := painted none .fetch [(0, aBurst)];
      let part := { (v.port 0).stores[1].parts[0] with kept := true };
      (v.window 0).current = none ∧ part.kept = true ∧ part.mark = some .fetch ∧
        ∀ n < (v.stream 0).bpp, part.byte? (15 * 2 + n) ≠ none) ∧
    (2 ≤ (demoVideo.port 0).bpp ∧ (demoVideo.port 0).bpp ≤ 4) := by decide +kernel

/-- OUT0 about to emit line 3, on which window 0 waits for slot 1; the line has no store. -/
def waiting (fallback : Option SlotId) : State :=
  { demo with
    video := (chasingVideo fallback).setPort 0
      { demoVideo.port 0 with lineCounter := 4, wait := some { layer := 0, slot := 1, srcLine := 3, line := 3 } } }

/-- OUT0's fetcher on line `y` at layer `l`, with line store 1 assigned to the line and store 0 free. -/
def fetchingAt (v : Video) (y l emission : Nat) : Video :=
  v.setPort 0
    { v.port 0 with
      fetchLine := some y, fetchLayer := l, emissionLine := emission
      stores := Vector.ofFn fun k => if k = 1 then { LineStore.free with line := some y } else LineStore.free }

/-- The fetcher of OUT0 is at line `y` with window 0 of the port undecided and the line inside the window. -/
abbrev decides (v : Video) (y : Nat) : Prop :=
  (((fetchingAt v y 0 y).port 0).on = true ∧ ((fetchingAt v y 0 y).port 0).wait = none ∧
    ((fetchingAt v y 0 y).port 0).fetchLine = some y ∧ ((fetchingAt v y 0 y).port 0).fetchLayer = (0 : Layer).val ∧
    ((fetchingAt v y 0 y).port 0).storeOf y = some 1) ∧
  (v.window (winOf 0 0)).state ≠ .clear ∧ (v.window (winOf 0 0)).dy ≤ y ∧
  y < (v.window (winOf 0 0)).dy + (v.window (winOf 0 0)).h * (v.window (winOf 0 0)).vrep ∧
  (v.window (winOf 0 0)).stream = some 0

/-- The rows of R113 for window 0, which shows 16 lines of slot 0 or chases slot 1 with 3 lines committed: a line it does
not cover, nothing held, a line of a READY slot below and at its committed count, and of a chased slot below and at it. -/
theorem witness_FetchOnlyCommitted_rows :
    let short := demoVideo.setSlot 0 { demoVideo.slot 0 with committed := 15 }
    (demoVideo.window (winOf 0 1)).state = .clear ∧
    (decides (painted none .fetch []) 0 ∧ ((painted none .fetch []).window 0).current = none) ∧
    (decides short 14 ∧ decides short 15 ∧ (short.window 0).current = some 0 ∧ (short.slot 0).state = .ready ∧
      14 < (short.slot 0).committed ∧ (short.slot 0).committed ≤ 15) ∧
    (decides (chasingVideo none) 2 ∧ decides (chasingVideo none) 3 ∧ ((chasingVideo none).window 0).current = some 1 ∧
      ((chasingVideo none).slot 1).state = .filling ∧ ((chasingVideo none).slot 1).committed = 3) := by
  refine ⟨?_, ⟨?_, ?_⟩, ⟨?_, ?_, ?_, ?_, ?_, ?_⟩, ?_, ?_, ?_, ?_, ?_⟩ <;> decide +kernel

/-- All four windows decided: on the last active line, with the lead of three lines reached and one short of it; a wait
that has ended; and a line start of an active line. -/
theorem witness_FetchOnlyCommitted_lead :
    (let pt := (fetchingAt demoVideo 15 4 15).port 0; pt.fetchLayer = 4 ∧ pt.activeLines ≤ 15 + 1) ∧
    (let pt := (fetchingAt demoVideo 8 4 5).port 0; 8 + 1 < pt.activeLines ∧ pt.emissionLine + 3 < 8 + 1) ∧
    (let pt := (fetchingAt demoVideo 7 4 5).port 0;
      7 + 1 < pt.activeLines ∧ 7 + 1 ≤ pt.emissionLine + 3 ∧ pt.emissionLine ≤ 7 ∧ pt.stores[(0 : Fin 4)].line = none) ∧
    ((waiting none).video.port 0).wait ≠ none ∧ (demoVideo.port 0).wait = none ∧
    (let s := atLine 16 (some 15)
     let pt := s.video.port 0
     s.channel.draining = false ∧ pt.on = true ∧ pt.lineCounter + 1 < pt.frameTotal ∧
      pt.lineCounter + 1 = pt.topBlank + 15 ∧ 15 < pt.activeLines ∧ pt.fetchLine = some 15 ∧
      ∃ t, exec (.lineStart 0) s = .next t) := by
  refine ⟨?_, ?_, ?_, ?_, ?_, ?_, ?_, ?_, ?_, ?_, ?_, _, rfl⟩ <;> decide +kernel

theorem witness_ComposedPixels_chase_fault :
    ∀ b : Bool, let s := waiting (if b then some 0 else none)
      let pt := s.video.port 0
      s.channel.draining = false ∧ pt.on = true ∧ pt.lineCounter + 1 = pt.topBlank + 3 ∧ 3 < pt.activeLines ∧
        pt.lineCounter + 1 < pt.frameTotal ∧ pt.wait = some { layer := 0, slot := 1, srcLine := 3, line := 3 } ∧
        (s.video.window 0).current = some 1 ∧ (s.video.slot 1).state = .filling ∧
        s.video.paintAt 0 3 15 = .underrun 0 := by decide +kernel

theorem ports_ok : demo.video.PortsOk := by
  intro p hp
  exact ⟨by revert p; decide +kernel, by revert p; decide +kernel, by revert p; decide +kernel,
    by revert p; decide +kernel, by revert p; decide +kernel, by revert p; decide +kernel⟩

theorem witness_PortsKept : (fronted .grant demo).video.PortsOk ∧ ∃ t, step (fronted .grant demo) = .next t :=
  ⟨ports_ok, _, rfl⟩

/-- OUT1 has 2 + 16 lines and 40 in all, so that a bend of 15 lines fits. -/
theorem witness_LockCommands :
    LinkFree demo ∧ (demo.video.port 1).timingValid = true ∧
    (demo.video.port 1).topBlank + (demo.video.port 1).activeLines + 1 + (15 : Byte).toNat ≤ (demo.video.port 1).totalLines ∧
    (demo.video.port 1).totalLines + (15 : Byte).toNat ≤ 8191 := ⟨demo_free, by decide +kernel⟩

/-- The lock unit of OUT0 following stream 0 with N 4, W 2 and D 3, on a frame of 1125 lines at line `p`. -/
def lockVideo (state : LockState) (countdown p : Nat) : Video :=
  (demoVideo.setLock 0
      { LockUnit.reset with
        configured := true, interval := 4, window := 2, delta := 3, state := state, countdown := countdown
        firstFrameSeen := true }).setPort 0
    { demoVideo.port 0 with totalLines := 1125, frameTotal := 1125, nextTotal := 1125, lineCounter := p }

theorem witness_LockSamples :
    (LockUnit.reset.state = .unlocked ∧ LockUnit.reset.firstFrameSeen = false ∧ LockUnit.reset.refStream ≠ 1) ∧
    (let u := (lockVideo .acquiring 2 0).lock 0;
      u.state ≠ .unlocked ∧ u.refStream = 0 ∧ u.firstFrameSeen = true ∧ 2 ≤ u.countdown) ∧
    (let u := (lockVideo .locked 1 49).lock 0;
      u.state = .locked ∧ u.refStream = 0 ∧ u.firstFrameSeen = true ∧ u.countdown ≤ 1 ∧ 16 * u.delta < (49 : Int).natAbs ∧
        (48 : Int).natAbs ≤ 16 * u.delta ∧ (u.window : Int) < 3 ∧ ¬(u.window : Int) < 2) ∧
    (let u := (lockVideo .acquiring 1 2).lock 0;
      u.state = .acquiring ∧ u.countdown ≤ 1 ∧ (2 : Int).natAbs ≤ u.window ∧ u.window < (3 : Int).natAbs) := by
  decide +kernel

/-- A sample in HOLDOVER at the edge of the window and beyond it. -/
theorem witness_LockSamples_holdover :
    let u := (lockVideo .holdover 1 2).lock 0
    u.state = .holdover ∧ u.refStream = 0 ∧ u.firstFrameSeen = true ∧ u.countdown ≤ 1 ∧
      ((lockVideo .holdover 1 2).port 0).lineCounter = 2 ∧ (2 : Int).natAbs ≤ u.window ∧ u.window < (3 : Int).natAbs := by
  decide +kernel

/-- `flying` with bursts in IN0's FIFO and a read pending at OUT0. -/
def requesting (fifo : Nat) (reads : List PendingRead) : State :=
  let v := demoVideo.setInput 0
    { demoVideo.input 0 with fifo := List.replicate fifo { tag := aTag, data := aBurst }, run := 8 ≤ fifo }
  { demo with
    video := v.setPort 0
      { v.port 0 with
        pendingReads := reads
        stores := Vector.ofFn fun k => if k = 1 then { LineStore.free with line := some 9 } else LineStore.free } }

def aRead (slot : SlotId) (srcLine : Nat) : PendingRead :=
  { layer := 0, line := 9, srcLine := srcLine, burst := 0, slot := slot }

/-- An URGENT write FIFO, a NORMAL one, a NORMAL read for the slot shown or for another one, whose line is or is not
committed there, and a span alone. -/
theorem witness_Grants :
    (demo.channel.cal = .ready ∧ demo.channel.draining = false ∧ demo.channel.inFlight.length < 4) ∧
    ((∀ r : Fin 8, demo.requestOf r = none) ∧ demo.hostRequest = none) ∧
    ((requesting 24 []).requestOf 0 = some .urgent ∧ (0 : Fin 8) - (requesting 24 []).channel.urgentPtr = 0) ∧
    ((requesting 8 []).requestOf 0 = some .normal ∧ ∀ k : Fin 8, (requesting 8 []).requestOf k ≠ some .urgent) ∧
    (∀ i : Fin 3, ∀ line : Fin 17, let s := requesting 0 [aRead ⟨i.val, by omega⟩ line];
      s.requestOf 4 = some .normal ∧ (s.video.window (winOf 0 0)).current = some 0 ∧
        (s.video.slot 0).owner = some 0 ∧ (s.video.port 0).storeOf 9 = some 1 ∧ (s.video.slot 0).state = .ready ∧
        ((line.val < (s.video.slot 0).committed) ↔ line.val ≤ 15)) ∧
    ((demoVideo.setWindow 0 { demoVideo.window 0 with current := none }).window 0).current = none ∧
    (let s := spanning .writing 3 3 [];
      (∀ r : Fin 8, s.requestOf r = none) ∧ s.host.state ≠ .idle ∧ s.host.abort = false ∧
        s.host.issued < s.host.spanBursts ∧ s.host.issued < 64) := by decide +kernel

/-- A read of line 9 of OUT0's frame, due before the line is emitted. -/
def readTag : ReadTag := { frame := 0, line := 9, store := 1, layer := 0, burst := 0 }

theorem witness_TransfersComplete :
    demo.channel.inFlight = [] ∧ ¬((Transfer.hostRead 32 0).addr % 64 = 0) ∧
    ((Transfer.hostRead 268435392 63).addr + 64 ≤ 268435456 ∧ Memory.wf demo.mem = true ∧
      demo.channel.draining = false ∧ demo.link.commands = [] ∧ demo.host.state = .idle) ∧
    (let s := spanning .reading 3 1 [.hostRead 64 1]; s.host.completed + 1 < s.host.issued ∧ s.host.abort = false) ∧
    (let pt := (requesting 0 []).video.port 0;
      pt.on = true ∧ readTag.frame = pt.frameNumber ∧ pt.stores[readTag.store].line = some readTag.line ∧
        pt.lineCounter < pt.topBlank + readTag.line) ∧
    (0 < { Ingest.reset with orphans := 1 }.orphans ∧ (demo.video.input 0).orphans = 0 ∧
      ∀ e ∈ (demo.video.input 0).frames, ¬(e.slot = 1 ∧ e.seq = 5)) := by decide +kernel

/-- The frame list with its head done, and with an orphan ahead of a burst of the frame's own. -/
theorem witness_TransfersComplete_frames :
    let e : FrameEntry := { slot := 1, seq := 6, ended := true, commitPoint := 16, lines := [] }
    let v := fun orphans => demoVideo.setInput 0 { demoVideo.input 0 with frames := [e], orphans := orphans }
    let write : Transfer := .ingestWrite 0 64 aTag aBurst
    let done := fun (v : Video) (flying : List Transfer) => e.ended = true ∧
      (∀ b ∈ (v.input 0).fifo, ¬(b.tag.slot = e.slot ∧ b.tag.seq = e.seq)) ∧
      ∀ t ∈ (flying.filter fun t => t.isWriteOf 0).drop (v.input 0).orphans, t.isOf 0 e.slot e.seq = false
    (v 1).input 0 = { demoVideo.input 0 with frames := [e], orphans := 1 } ∧ done (v 1) [write] ∧
      ¬ done (v 1) [write, write] ∧ ¬ done (v 0) [write] := by decide +kernel

/-- A burst of line 3 completes: the last of its line or not; and a host read, after ABORT or not. -/
theorem witness_TransfersComplete_tracked :
    (∀ n : Fin 2, ∀ lineEnded : Bool,
      let e : FrameEntry := { slot := 1, seq := 6, ended := false, commitPoint := 3
                              lines := [{ line := 3, ended := lineEnded, outstanding := n.val + 1 }] };
      let g := { demoVideo.input 0 with frames := [e] };
      g.orphans = 0 ∧ g.stream = some 0 ∧ g.frames = [] ++ e :: [] ∧ e.slot = 1 ∧ e.seq = 6 ∧
        3 < (demoVideo.stream 0).height ∧
        e.lines = [{ line := ({ slot := 1, seq := 6, line := 3, burst := 0 } : BurstTag).line, ended := lineEnded
                     outstanding := n.val + 1 }]) ∧
    (∀ abort : Bool, let s := spanning .reading 3 1 [.hostRead 64 63];
      let s := { s with host := { s.host with abort := abort } };
      s.channel.inFlight = .hostRead 64 63 :: [] ∧ Memory.wf s.mem = true ∧ s.channel.draining = false ∧
        s.link.commands = [] ∧ s.host.completed + 1 < s.host.issued ∧ s.host.abort = abort) ∧
    (spanning .writing 3 1 [.hostWrite 64 0 aBurst]).channel.inFlight = .hostWrite 64 0 aBurst :: [] := by
  decide +kernel

/-- The burst that completes is the last one of line 3, behind which line 4 has ended whole; line 5 has not. -/
theorem witness_TransfersComplete_lines :
    let tag : BurstTag := { slot := 1, seq := 6, line := 3, burst := 0 }
    let post : List LineRec := [{ line := 4, ended := true, outstanding := 0 }, { line := 5, ended := true, outstanding := 1 }]
    let e : FrameEntry :=
      { slot := 1, seq := 6, ended := true, commitPoint := 3, lines := { line := 3, ended := true, outstanding := 1 } :: post }
    let lines := [] ++ { line := tag.line, ended := true, outstanding := 0 } :: post
    let whole := fun k : Nat => k < (demoVideo.stream 0).height ∧ { line := k, ended := true, outstanding := 0 } ∈ lines
    e.lines = [] ++ { line := tag.line, ended := true, outstanding := 0 + 1 } :: post ∧ (e.lines.map LineRec.line).Nodup ∧
      e.commitPoint ≤ 5 ∧ (∀ k < 5, e.commitPoint ≤ k → whole k) ∧ ¬ whole 5 := by
  decide +kernel

/-- A span that waits for a grant, one with a single burst in flight and more to issue, and one whose last burst is in
flight behind a transfer of a port. -/
theorem witness_TransfersComplete_in_a_span :
    (let s := spanning .writing 2 2 [.portRead 0 64 readTag];
      s.host.state ≠ .idle ∧ s.host.completed = s.host.issued ∧ s.host.issued ≠ s.host.spanBursts ∧ s.host.abort = false) ∧
    (let s := spanning .writing 2 1 [.hostWrite 64 1 aBurst];
      s.host.completed + 1 = s.host.issued ∧ s.host.issued ≠ s.host.spanBursts ∧ s.host.abort = false) ∧
    (let s := spanning .writing 4 3 [.ingestWrite 0 64 aTag aBurst, .hostWrite 64 3 aBurst];
      s.host.completed ≠ s.host.issued ∧ s.host.issued = s.host.spanBursts) := by
  decide +kernel

/-- A completion during a drain with another transfer behind it, each kind, and an orphan. -/
theorem witness_TransfersComplete_drain :
    ∀ x ∈ [Transfer.portRead 0 64 readTag, .ingestWrite 0 64 aTag aBurst, .hostWrite 64 0 aBurst, .hostRead 64 0],
      let s := draining [x, .hostRead 128 1]
      x.addr % 64 = 0 ∧ x.addr + 64 ≤ 268435456 ∧ Memory.wf s.mem = true ∧ s.channel.draining = true ∧
        s.host.state = .idle ∧ s.channel.inFlight = x :: [.hostRead 128 1] := by
  decide +kernel

theorem witness_MemoryKept : Memory.wf (fronted .grant demo).mem = true ∧ (fronted .grant demo).channel.inFlight.length ≤ 4 ∧
    ∃ t, step (fronted .grant demo) = .next t := ⟨rfl, by decide +kernel, _, rfl⟩

theorem witness_OnlyCompletionsWriteMemory :
    (∃ t, exec .transferComplete (flying [.hostWrite 64 0 aBurst]) = .next t ∧ t.byteAt 64 ≠ demo.byteAt 64) ∧
    Memory.wf demo.mem = true := ⟨⟨_, rfl, by decide +kernel⟩, rfl⟩

/-- Host stream 1 with slot 3 as its fill target. -/
def hostFrame (st : StreamState) : State :=
  demoWith fun v => (v.setSlot 3 { v.slot 3 with state := .filling, seq := 1 }).setStream 1
    { v.stream 1 with state := st, fillTarget := some 3, nextSeq := 2 }

theorem witness_HostFrames :
    (LinkFree demo ∧ (demo.video.stream 1).source = some .host ∧ demo.channel.cal = .ready ∧
      (demo.video.stream 1).state = .running ∧ (demo.video.stream 1).fillTarget = none ∧
      (demo.video.take 1).2 = .taken 3 1) ∧
    ((demoWith fun v => v.setStream 1 { v.stream 1 with pool := [] }).video.take 1).2 = .noTarget ∧
    (let s := hostFrame .stopping;
      LinkFree s ∧ (s.video.stream 1).state = .stopping ∧ (s.video.stream 1).fillTarget = some 3 ∧
        (s.video.slot 3).owner = some 1 ∧ (s.video.slot 3).state = .filling ∧ (s.video.slot 3).readers = 0 ∧
        (s.video.slot 3).damage = 0 ∧ (s.video.stream 1).delivery = .newest ∧ (s.video.slot 3).leaving = false ∧
        (∀ p : PortId, (s.video.port p).wait = none) ∧
        ∀ j : SlotId, s.video.newestReady 1 = some j → (s.video.slot j).leaving = false) :=
  ⟨⟨demo_free, by decide +kernel⟩, by decide +kernel, linkFree_of rfl, by decide +kernel⟩

/-- A frame of an ORDERED host stream, which window 0 is to show, from a slot that is leaving. -/
theorem witness_HostFrames_ordered_and_leaving :
    let s := { hostFrame .running with
      video := (((hostFrame .running).video.setStream 1 { (hostFrame .running).video.stream 1 with delivery := .ordered }).setSlot 3
          { (hostFrame .running).video.slot 3 with leaving := true }).setWindow 0
        { demoVideo.window 0 with stream := some 1, state := .idle, current := none } };
    LinkFree s ∧ ((s.video.stream 1).source = some .host ∧ (s.video.stream 1).state = .running ∧
      (s.video.stream 1).fillTarget = some 3 ∧ (s.video.slot 3).owner = some 1 ∧ (s.video.slot 3).state = .filling ∧
      (s.video.slot 3).readers = 0 ∧ (s.video.slot 3).damage = 0 ∧ (∀ p : PortId, (s.video.port p).wait = none) ∧
      (∀ j : SlotId, s.video.newestReady 1 = some j → (s.video.slot j).leaving = false) ∧
      (s.video.slot 3).leaving = true) ∧
    (s.video.port (portOf 0)).on = true ∧ (s.video.window 0).stream = some 1 :=
  ⟨linkFree_of rfl, by decide +kernel⟩

/-- `hostFrame` with the frame of slot 4 as the newest of the stream, its slot leaving. -/
def hostFrameAfter (held : Bool) : State :=
  let v := (hostFrame .running).video
  { hostFrame .running with
    video :=
      (v.setSlot 4 { v.slot 4 with state := .ready, seq := 9, leaving := true, pinned := held }).setStream 1
        { v.stream 1 with newest := 9 } }

theorem witness_HostFrames_newest_leaving :
    ∀ held : Bool,
      let v := (hostFrameAfter held).video
      LinkFree (hostFrameAfter held) ∧ (v.stream 1).source = some .host ∧ (v.stream 1).state = .running ∧
        (v.stream 1).fillTarget = some 3 ∧ (v.slot 3).owner = some 1 ∧ (v.slot 3).state = .filling ∧
        (v.slot 3).readers = 0 ∧ (v.slot 3).damage = 0 ∧ (∀ p : PortId, (v.port p).wait = none) ∧
        v.newestReady 1 = some 4 ∧ (v.slot 4).leaving = true ∧ ((v.slot 4).held ↔ held = true) ∧
        (v.slot 4).owner = some 1 ∧ (v.slot 4).seq ≠ (v.slot 3).seq := by
  intro held
  refine ⟨linkFree_of rfl, ?_⟩
  unfold Slot.held
  revert held
  decide +kernel

/-- A span of one burst of the last line, to the fill target and from a pinned frame; and each at its last burst. -/
theorem witness_Spans :
    (let s := hostFrame .running;
      LinkFree s ∧ s.channel.cal = .ready ∧ (s.video.slot 3).owner = some 1 ∧ (64 : BitVec 16).toNat % 64 = 0 ∧
        (15 : BitVec 16).toNat < (s.video.stream 1).height ∧ 0 + 64 ≤ (s.video.stream 1).pitch * 64 ∧
        (s.video.stream 1).source = some .host ∧ (s.video.stream 1).fillTarget = some 3 ∧
        (s.video.stream 1).state = .running ∧ aBurst.toList.length = (64 : BitVec 16).toNat) ∧
    (let s := pinnedAs { Slot.reset with state := .detached, seq := 4 } .draining;
      LinkFree s ∧ (s.video.slot 2).pinned = true ∧ (s.video.slot 2).state = .detached ∧
        (15 : BitVec 16).toNat < (s.video.stream 0).height) ∧
    (let s := spanning .writing 4 3 [.hostWrite 64 3 aBurst];
      Memory.wf s.mem = true ∧ s.channel.draining = false ∧ s.link.commands = [] ∧ s.link.executing = some anEntry ∧
        s.host.abort = false ∧ s.host.issued = s.host.spanBursts ∧ s.host.completed + 1 = s.host.issued ∧
        s.host.state = .writing ∧ s.channel.inFlight = .hostWrite 64 3 aBurst :: []) ∧
    (let s := spanning .reading 4 3 [.hostRead 64 3];
      s.host.state = .reading ∧ s.channel.inFlight = .hostRead 64 3 :: [] ∧ s.host.spanBursts ≤ 64) :=
  ⟨⟨linkFree_of rfl, by decide +kernel⟩, ⟨linkFree_of rfl, by decide +kernel⟩, by decide +kernel⟩

/-- A span of 64 bursts that an ABORT found with 20 issued, the last of which is in flight; commands wait, or none. -/
def abortedSpan (state : HostState) (waiting : List CmdEntry) (t : Transfer) : State :=
  { spanning state 20 19 [t] with
    host := { (spanning state 20 19 []).host with spanBursts := 64, abort := true }
    link := busyLink (some anEntry) waiting [] }

theorem witness_Spans_aborted :
    ∀ n : Fin 2, ∀ reading : Bool,
      let t : Transfer := if reading then .hostRead 64 19 else .hostWrite 64 19 aBurst
      let s := abortedSpan (if reading then .reading else .writing) (List.replicate (8 * n.val) anEntry) t;
      Memory.wf s.mem = true ∧ s.channel.draining = false ∧ s.link.executing = some anEntry ∧
        (∀ x ∈ s.link.commands, x.payload.length ≤ 4104) ∧ s.host.abort = true ∧
        s.host.completed + 1 = s.host.issued ∧ s.host.spanBursts ≤ 64 ∧ s.channel.inFlight = t :: [] ∧
        s.host.state = (if reading then .reading else .writing) := by
  decide +kernel

theorem witness_QueriesKeepAndClear : LinkFree demo := demo_free

/-! The rows of the refusal tables, each the first that matches, at its boundary. -/

/-- `demo` while calibration runs. -/
def notReady : State := { demo with channel := Channel.reset }

theorem witness_Refusals_slots :
    (let rows := fun slot : Byte =>
      [((64 ≤ slot.toNat : Prop), Status.badArg),
        (∃ i : SlotId, i.val = slot.toNat ∧ (demo.video.slot i).state ≠ .spare, .badState)];
      Refuses (rows 64) .badArg ∧ Refuses (rows 0) .badState) ∧
    (let rows := fun slot : Byte =>
      [((64 ≤ slot.toNat : Prop), Status.badArg),
        (∃ i : SlotId, i.val = slot.toNat ∧ (demo.video.slot i).pinned = false, .badState)];
      Refuses (rows 64) .badArg ∧ Refuses (rows 63) .badState) := by
  simp only [Refuses]
  decide +kernel

/-- Slot 1 is FILLING, slot 2 a READY frame of sequence 4, pinned or not; stream 1 has two slots, one of them READY. -/
def pinning (pinned : Bool) : State :=
  demoWith fun v =>
    ((v.setSlot 2 { v.slot 2 with state := .ready, seq := 4, pinned := pinned }).setSlot 3
      { v.slot 3 with state := .ready, seq := 1 }).setStream 1 { v.stream 1 with newest := 1 }

theorem witness_Refusals_pin :
    LinkFree demo ∧
    2 < (3 : Byte).toNat ∧ 8 ≤ (8 : Byte).toNat ∧ 16 ≤ (16 : Byte).toNat ∧
    (let full := fun (s : State) (i : SlotId) => ∃ st : StreamId, (s.video.slot i).owner = some st ∧
      (s.video.stream st).pool.countP (fun j => !(s.video.slot j).leaving)
        ≤ (s.video.stream st).pool.countP (fun j => (s.video.slot j).pinned) + 2;
    (let rows := fun (s : State) (selector : Byte) (st : StreamId) (seq : BitVec 32) =>
      let found := fun i : SlotId =>
        (selector = 0 → s.video.newestReady st = some i) ∧
        (selector = 1 → seq ≠ 0 ∧ s.video.readyWith st seq = some i)
      [((s.video.stream st).live = false, Status.badState), (∀ i : SlotId, ¬ found i, .notFound),
        (∃ i : SlotId, found i ∧ (s.video.slot i).pinned = true, .badState), (∃ i : SlotId, found i ∧ full s i, .limit)];
      Refuses (rows demo 0 3 0) .badState ∧ Refuses (rows demo 0 1 0) .notFound ∧ Refuses (rows demo 1 0 0) .notFound ∧
        Refuses (rows (pinning true) 1 0 4) .badState ∧ Refuses (rows (pinning true) 0 1 0) .limit) ∧
    (let rows := fun (s : State) (w : WindowId) =>
      let found := fun i : SlotId => (s.video.window w).current = some i
      [((s.video.window w).state = .chasing, Status.badState), ((s.video.window w).current = none, .notFound),
        (∃ i : SlotId, found i ∧ (s.video.slot i).state ≠ .ready, .badState),
        (∃ i : SlotId, found i ∧ (s.video.slot i).pinned = true, .badState), (∃ i : SlotId, found i ∧ full s i, .limit)];
      let showing := fun (i : SlotId) (s : State) => { s with
        video := s.video.setWindow 0 { s.video.window 0 with current := some i } };
      Refuses (rows (demoWith fun v => v.setWindow 0 { v.window 0 with state := .chasing }) 0) .badState ∧
        Refuses (rows demo 15) .notFound ∧ Refuses (rows (showing 1 demo) 0) .badState ∧
        Refuses (rows (showing 2 (pinning true)) 0) .badState ∧ Refuses (rows (showing 3 (pinning false)) 0) .limit)) := by
  refine ⟨demo_free, by decide, by decide, by decide, ⟨?_, ?_, ?_, ?_, ?_⟩, ?_, ?_, ?_, ?_, ?_⟩ <;>
    dsimp only <;>
    repeat (first | exact Refuses.here (by decide +kernel) | refine Refuses.next (by decide +kernel) ?_)

/-- STREAM_OPEN of stream 3 on slots 7 and 8, and what each row changes of that. -/
theorem witness_Refusals_open :
    let rows := fun (s : State) (stream source bpp : Byte) (width height pitch : BitVec 16) (delivery mask : Byte)
        (pool : List Byte) =>
      let listed := pool.filterMap slotOf
      [((8 ≤ stream.toNat : Prop), Status.badArg),
        (∃ st : StreamId, st.val = stream.toNat ∧ (s.video.stream st).state ≠ .closed, .badState),
        (4 < source.toNat, .badArg),
        (∃ (p : PortId) (x : StreamId), p.val = source.toNat ∧ x.val ≠ stream.toNat ∧
          (s.video.stream x).source = some (.input p) ∧ (s.video.stream x).state ≠ .closed, .badState),
        (bpp.toNat < 2 ∨ 4 < bpp.toNat ∨ width.toNat < 16 ∨ 4096 < width.toNat ∨ height.toNat < 16 ∨
          4096 < height.toNat ∨ pitch.toNat < 1 ∨ 1024 < pitch.toNat ∨
          pitch.toNat < (width.toNat * bpp.toNat + 63) / 64, .badArg),
        (1 < delivery.toNat ∨ 16 ≤ mask.toNat, .badArg),
        (pool.length < 2 ∨ 8 < pool.length ∨ (∃ b ∈ pool, 64 ≤ b.toNat) ∨ ¬ pool.Nodup, .badArg),
        (∃ i ∈ listed, (s.video.slot i).state ≠ .spare, .badState),
        (∃ i ∈ listed, s.video.regionFails pitch.toNat height.toNat listed i, .overlap),
        (s.channel.cal ≠ .ready, .notReady)]
    ((Refuses (rows opening 8 2 4 16 16 1 0 0 [7, 8]) .badArg ∧ Refuses (rows opening 2 2 4 16 16 1 0 0 [7, 8]) .badState ∧
      Refuses (rows opening 3 5 4 16 16 1 0 0 [7, 8]) .badArg ∧ Refuses (rows opening 3 0 4 16 16 1 0 0 [7, 8]) .badState) ∧
    (Refuses (rows opening 3 2 5 16 16 1 0 0 [7, 8]) .badArg ∧ Refuses (rows opening 3 2 4 17 16 1 0 0 [7, 8]) .badArg ∧
      Refuses (rows opening 3 2 4 16 16 1 2 0 [7, 8]) .badArg ∧ Refuses (rows opening 3 2 4 16 16 1 0 16 [7, 8]) .badArg) ∧
    (Refuses (rows opening 3 2 4 16 16 1 0 0 [7]) .badArg ∧ Refuses (rows opening 3 2 4 16 16 1 0 0 [7, 7]) .badArg ∧
      Refuses (rows opening 3 2 4 16 16 1 0 0 [7, 64]) .badArg ∧ Refuses (rows opening 3 2 4 16 16 1 0 0 [7, 0]) .badState ∧
      Refuses (rows opening 3 2 4 16 65 1 0 0 [7, 8]) .overlap ∧
      Refuses (rows { opening with channel := Channel.reset } 3 2 4 16 16 1 0 0 [7, 8]) .notReady)) := by
  refine ⟨⟨?_, ?_, ?_, ?_⟩, ⟨?_, ?_, ?_, ?_⟩, ?_, ?_, ?_, ?_, ?_, ?_⟩ <;> (try dsimp only [Video.regionFails]) <;>
    repeat (first | exact Refuses.here (by decide +kernel) | refine Refuses.next (by decide +kernel) ?_)

theorem witness_Refusals_streams :
    (8 ≤ (8 : Byte).toNat ∧ 64 ≤ (64 : Byte).toNat ∧ 2 ≤ (2 : Byte).toNat) ∧
    (Refuses [((demo.video.stream 0).state ≠ .opened, .badState)] .badState ∧
      (let rows := fun x : Stream =>
        [((x.state = .closed ∨ x.state = .opened ∨ x.state = .draining : Prop), Status.badState),
          (x.state = .stopping, .badState)];
        Refuses (rows (demo.video.stream 3)) .badState ∧ Refuses (rows ((hostFrame .stopping).video.stream 1)) .badState) ∧
      Refuses
        [((demo.video.stream 3).state = .closed ∨ (demo.video.stream 3).state = .draining, .badState)] .badState) ∧
    -- POOL_GROW and POOL_SHRINK
    let eight := demoWith fun v => v.setStream 0 { v.stream 0 with pool := [0, 1, 2, 10, 11, 12, 13, 14] }
    let apart := fun s : State => { s with video := s.video.setSlot 9 { Slot.reset with base := 0xFFFF } }
    (let rows := fun (s : State) (st : StreamId) (i : SlotId) =>
      let x := s.video.stream st
      [((x.state = .closed ∨ x.state = .draining : Prop), Status.badState), (8 ≤ x.pool.length, .limit),
        ((s.video.slot i).state ≠ .spare, .badState), (s.video.regionFails x.pitch x.height [i] i, .overlap),
        (s.channel.cal ≠ .ready, .notReady)];
      Refuses (rows demo 3 9) .badState ∧ Refuses (rows eight 0 9) .limit ∧ Refuses (rows demo 0 3) .badState ∧
        Refuses (rows demo 0 9) .overlap ∧ Refuses (rows (apart notReady) 0 9) .notReady) ∧
    (let rows := fun (s : State) (st : StreamId) (i : SlotId) =>
      let x := s.video.stream st
      let others := x.pool.countP fun j => decide (j ≠ i) && !(s.video.slot j).leaving
      [((x.state = .closed ∨ x.state = .draining : Prop), Status.badState), (i ∉ x.pool, .notFound),
        ((s.video.slot i).leaving = false ∧
          (others < 2 ∨ others < x.pool.countP (fun j => (s.video.slot j).pinned) + 2), .limit)];
      Refuses (rows demo 3 9) .badState ∧ Refuses (rows demo 0 9) .notFound ∧ Refuses (rows demo 1 3) .limit ∧
        Refuses (rows (pinnedAs { Slot.reset with state := .ready, seq := 4 } .running) 0 2) .limit) := by
  refine ⟨by decide, ⟨?_, ⟨?_, ?_⟩, ?_⟩, ⟨?_, ?_, ?_, ?_, ?_⟩, ?_, ?_, ?_, ?_⟩ <;> (try dsimp only [Video.regionFails]) <;>
    repeat (first | exact Refuses.here (by decide +kernel) | refine Refuses.next (by decide +kernel) ?_)

theorem witness_Refusals_windows :
    (Refuses [(8 ≤ (8 : Byte).toNat ∨ 1 < (0 : Byte).toNat, .badArg)] .badArg ∧
      Refuses [(16 ≤ (15 : Byte).toNat ∨ 1 < (2 : Byte).toNat, .badArg)] .badArg ∧
      Refuses [(4 ≤ (4 : Byte).toNat ∨ 1 < (0 : Byte).toNat, .badArg)] .badArg ∧
      Refuses [(1 < (2 : Byte).toNat, .badArg)] .badArg) ∧
    (let rows := fun (window stream : Byte) (x0 y0 w h dx dy : BitVec 16) (hrep vrep : Byte) =>
      let port := fun k : WindowId => demo.video.port (portOf k)
      [((16 ≤ window.toNat ∨ 8 ≤ stream.toNat : Prop), Status.badArg),
        (4095 < x0.toNat ∨ 4095 < y0.toNat ∨ w.toNat < 1 ∨ 4096 < w.toNat ∨ h.toNat < 1 ∨ 4096 < h.toNat ∨
          4096 < x0.toNat + w.toNat ∨ 4096 < y0.toNat + h.toNat, .badArg),
        (hrep ≠ 1 ∧ hrep ≠ 2 ∨ vrep ≠ 1 ∧ vrep ≠ 2, .badArg),
        (∃ k : WindowId, k.val = window.toNat ∧ (port k).timingValid = false, .badState),
        (∃ k : WindowId, k.val = window.toNat ∧
          ((port k).activeWidth ≤ dx.toNat ∨ (port k).activeLines ≤ dy.toNat), .badArg)];
      Refuses (rows 16 0 0 0 1 1 0 0 1 1) .badArg ∧ Refuses (rows 0 0 4095 0 2 1 0 0 1 1) .badArg ∧
        Refuses (rows 0 0 0 0 1 1 0 0 3 1) .badArg ∧ Refuses (rows 15 0 0 0 1 1 0 0 1 1) .badState ∧
        Refuses (rows 0 0 0 0 1 1 16 0 1 1) .badArg) ∧
    (let rows := fun (window : Byte) (counts : List Byte) =>
      [((16 ≤ window.toNat : Prop), Status.badArg),
        (counts.length < 1 ∨ 16 < counts.length ∨ ∃ c ∈ counts, c.toNat < 1 ∨ 15 < c.toNat, .badArg)];
      Refuses (rows 16 [1]) .badArg ∧ Refuses (rows 15 []) .badArg ∧ Refuses (rows 15 (List.replicate 17 1)) .badArg ∧
        Refuses (rows 15 [16]) .badArg) := by
  refine ⟨⟨?_, ?_, ?_, ?_⟩, ⟨?_, ?_, ?_, ?_, ?_⟩, ?_, ?_, ?_, ?_⟩ <;> (try dsimp only) <;>
    repeat (first | exact Refuses.here (by decide +kernel) | refine Refuses.next (by decide +kernel) ?_)

theorem witness_Refusals_ports :
    (let rows := fun port lossTimeout normal urgent : Byte =>
      [((4 ≤ port.toNat : Prop), Status.badArg), (lossTimeout.toNat < 1, .badArg),
        (normal.toNat < 1 ∨ 32 < normal.toNat, .badArg), (urgent.toNat < normal.toNat ∨ 32 < urgent.toNat, .badArg)];
      Refuses (rows 4 1 1 1) .badArg ∧ Refuses (rows 3 0 1 1) .badArg ∧ Refuses (rows 3 1 33 33) .badArg ∧
        Refuses (rows 3 1 2 1) .badArg ∧ Refuses (rows 3 1 2 33) .badArg) ∧
    (let rows := fun (port bpp : Byte) (width lines : BitVec 16) (topBlank : Byte) (total length : BitVec 16)
        (urgentLead : Byte) =>
      [((4 ≤ port.toNat : Prop), Status.badArg),
        (∃ p : PortId, p.val = port.toNat ∧ (demo.video.port p).on = true, .badState),
        (bpp.toNat < 2 ∨ 4 < bpp.toNat ∨ width.toNat < 16 ∨ 4096 < width.toNat ∨ lines.toNat < 16 ∨
          4096 < lines.toNat ∨ topBlank.toNat < 2, .badArg),
        (total.toNat < topBlank.toNat + lines.toNat + 1 ∨ 8191 < total.toNat ∨
          length.toNat < width.toNat + 16 ∨ 16383 < length.toNat, .badArg),
        (2 < urgentLead.toNat, .badArg)];
      Refuses (rows 4 2 16 16 2 19 32 0) .badArg ∧ Refuses (rows 0 2 16 16 2 19 32 0) .badState ∧
        Refuses (rows 1 2 16 16 1 19 32 0) .badArg ∧ Refuses (rows 1 2 16 16 2 18 32 0) .badArg ∧
        Refuses (rows 1 2 16 16 2 19 32 3) .badArg) ∧
    (let rows := fun (s : State) (p : PortId) =>
      [(((s.video.port p).on = true : Prop), Status.badState), ((s.video.port p).timingValid = false, .badState),
        (s.channel.cal ≠ .ready, .notReady)];
      Refuses (rows demo 0) .badState ∧ Refuses (rows demo 2) .badState ∧ Refuses (rows notReady 1) .notReady) ∧
    (Refuses [((demo.video.port 1).on = false, .badState)] .badState ∧
      let rows := fun port stream n _ d : Byte =>
        let pt := fun p : PortId => demo.video.port p
        [((4 ≤ port.toNat ∨ 8 ≤ stream.toNat : Prop), Status.badArg),
          (n.toNat < 1 ∨ 16 < n.toNat ∨ d.toNat < 1 ∨ 15 < d.toNat, .badArg),
          (∃ p : PortId, p.val = port.toNat ∧ (pt p).timingValid = false, .badState),
          (∃ p : PortId, p.val = port.toNat ∧
            ((pt p).totalLines < (pt p).topBlank + (pt p).activeLines + 1 + d.toNat ∨
              8191 < (pt p).totalLines + d.toNat), .badArg)];
      Refuses (rows 3 8 1 0 1) .badArg ∧ Refuses (rows 3 7 17 0 1) .badArg ∧ Refuses (rows 2 0 1 0 1) .badState ∧
        Refuses (rows 0 0 1 0 1) .badArg) := by
  refine ⟨⟨?_, ?_, ?_, ?_, ?_⟩, ⟨?_, ?_, ?_, ?_, ?_⟩, ⟨?_, ?_, ?_⟩, ?_, ?_, ?_, ?_, ?_⟩ <;> (try dsimp only) <;>
    repeat (first | exact Refuses.here (by decide +kernel) | refine Refuses.next (by decide +kernel) ?_)

theorem witness_Refusals_host :
    (let rows := fun (s : State) (st : StreamId) =>
      let x := s.video.stream st
      [((s.channel.cal ≠ .ready : Prop), Status.notReady), (x.source ≠ some .host, .badState),
        (x.state ≠ .running, .badState), (x.fillTarget ≠ none, .badState)];
      Refuses (rows notReady 1) .notReady ∧ Refuses (rows demo 0) .badState ∧ Refuses (rows demo 2) .badState ∧
        Refuses (rows (hostFrame .running) 1) .badState) ∧
    (let rows := fun (s : State) (st : StreamId) =>
      let x := s.video.stream st
      [((x.source ≠ some .host ∨ x.state ≠ .running ∧ x.state ≠ .stopping : Prop), Status.badState),
        (x.fillTarget = none, .badState)];
      Refuses (rows demo 2) .badState ∧ Refuses (rows demo 1) .badState) ∧
    (let rows := fun (s : State) (stream : Byte) (line offset length : BitVec 16) (data : List Byte) =>
      let on := fun row : Stream → Prop => ∃ st : StreamId, st.val = stream.toNat ∧ row (s.video.stream st)
      [((8 ≤ stream.toNat : Prop), Status.badArg), (s.channel.cal ≠ .ready, .notReady),
        (on fun x => x.source ≠ some .host ∨ x.state ≠ .running ∧ x.state ≠ .stopping, .badState),
        (on fun x => x.fillTarget = none, .badState),
        (offset.toNat % 64 ≠ 0 ∨ length.toNat % 64 ≠ 0 ∨ length.toNat < 64 ∨ 4096 < length.toNat, .badArg),
        (data.length ≠ length.toNat, .badLength),
        (on fun x => x.height ≤ line.toNat ∨ x.pitch * 64 < offset.toNat + length.toNat, .badArg)];
      let filling := hostFrame .running;
      Refuses (rows filling 8 0 0 64 aBurst.toList) .badArg ∧ Refuses (rows notReady 7 0 0 64 aBurst.toList) .notReady ∧
        Refuses (rows demo 0 0 0 64 aBurst.toList) .badState ∧ Refuses (rows demo 1 0 0 64 aBurst.toList) .badState ∧
        Refuses (rows filling 1 0 63 64 aBurst.toList) .badArg ∧ Refuses (rows filling 1 0 0 64 (7 :: aBurst.toList)) .badLength ∧
        Refuses (rows filling 1 16 0 64 aBurst.toList) .badArg ∧ Refuses (rows filling 1 15 64 64 aBurst.toList) .badArg) ∧
    (let rows := fun (s : State) (slot : Byte) (line offset length : BitVec 16) =>
      let on := fun row : Slot → Prop => ∃ i : SlotId, i.val = slot.toNat ∧ row (s.video.slot i)
      [((64 ≤ slot.toNat : Prop), Status.badArg), (s.channel.cal ≠ .ready, .notReady), (on fun sl => sl.pinned = false, .badState),
        (on fun sl => sl.state ≠ .ready ∧ sl.state ≠ .detached, .badState),
        (offset.toNat % 64 ≠ 0 ∨ length.toNat % 64 ≠ 0 ∨ length.toNat < 64 ∨ 4096 < length.toNat, .badArg),
        (on fun sl => ∃ st : StreamId, sl.owner = some st ∧
          ((s.video.stream st).height ≤ line.toNat ∨ (s.video.stream st).pitch * 64 < offset.toNat + length.toNat), .badArg)];
      let held := pinnedAs { Slot.reset with state := .detached, seq := 4 } .draining;
      Refuses (rows held 64 0 0 64) .badArg ∧ Refuses (rows notReady 63 0 0 64) .notReady ∧
        Refuses (rows held 1 0 0 64) .badState ∧
        Refuses (rows (pinnedAs { Slot.reset with state := .filling } .running) 2 0 0 64) .badState ∧
        Refuses (rows held 2 0 0 4160) .badArg ∧ Refuses (rows held 2 16 0 64) .badArg) ∧
    (let rows := fun entry causes : Byte =>
      [((28 < entry.toNat : Prop), Status.badArg),
        (if entry.toNat < 8 then 32 ≤ causes.toNat else 8 ≤ causes.toNat, .badArg)];
      Refuses (rows 29 0) .badArg ∧ Refuses (rows 7 32) .badArg ∧ Refuses (rows 28 8) .badArg) := by
  refine ⟨⟨?_, ?_, ?_, ?_⟩, ⟨?_, ?_⟩, ⟨?_, ?_, ?_, ?_, ?_, ?_, ?_, ?_⟩, ⟨?_, ?_, ?_, ?_, ?_, ?_⟩, ?_, ?_, ?_⟩ <;>
    (try dsimp only) <;>
    repeat (first | exact Refuses.here (by decide +kernel) | refine Refuses.next (by decide +kernel) ?_)

theorem witness_Grants_serving :
    ¬(notReady.channel.cal = .ready ∧ notReady.channel.draining = false) ∧
    ¬((draining []).channel.cal = .ready ∧ (draining []).channel.draining = false) ∧
    (demo.channel.cal = .ready ∧ demo.channel.draining = false) := by decide

/-! ## Single steps, the results the spec's -/

/-- The state after a command; the state before it where the command stops. -/
def after (c : Instr) (s : State) : State :=
  match exec c s with
  | .next t => t
  | .fault _ => s
  | .refused _ => s

/-- Status and payload of the responses a command leaves queued. -/
def answers (c : Instr) (s : State) : List (Status × List Byte) :=
  (after c s).link.responses.map fun r => (r.status, r.payload)

/-- The part before a power-on reset keeps nothing but frame memory. -/
theorem test_power_on_reset : after .powerOnReset demo = State.reset := by decide +kernel

/-- R171: the first byte of a transaction selects its type. -/
theorem test_transaction :
    transaction [0x40, 1] = some (.abort [1]) ∧ transaction [0x20, 9, 9] = some (.responseRead 2) ∧
    transaction [0x50] = some (.unknownType 0x50 0) := by decide

/-- R140: the release begins attempt 1. -/
theorem test_power_on_reset_release : (after .powerOnResetRelease State.reset).channel.attempts = 1 := by decide +kernel

/-- R140: a pass makes the memory READY and raises DRAM_READY in entry 28. -/
theorem test_calibration_pass :
    (after .calibrationPass (calibrating 2)).channel.cal = .ready ∧
    ((after .calibrationPass (calibrating 2)).video.attn.entry 28).pending = 1 := by decide +kernel

/-- R140: the third failure is the last. -/
theorem test_calibration_fail :
    (after .calibrationFail (calibrating 2)).channel.cal = .calibrating ∧
    (after .calibrationFail (calibrating 3)).channel.cal = .failed := by decide +kernel

/-- Section 11.9: NOP, tag 05h, payload 2Ah; the bytes sum to 0 modulo 256. -/
theorem test_command_write_nop :
    answers (.commandWrite [0x05, 0x7E, 0x01, 0x00, 0x2A, 0x52]) live = [(.ok, [0x2A])] := by decide +kernel

/-- R172: the same frame with a wrong checksum. -/
theorem test_command_write_checksum :
    (after (.commandWrite [0x05, 0x7E, 0x01, 0x00, 0x2A, 0x53]) live).link.faultKind = .checksum ∧
    (after (.commandWrite [0x05, 0x7E, 0x01, 0x00, 0x2A, 0x53]) live).link.faultTag = 5 := by decide +kernel

/-- R175, section 11.9: the response frame, and FFh after its last byte. -/
theorem test_response_read :
    (after (.responseRead 8) (after (.nop 5 [0x2A]) live)).link.sdo
      = [0, 0x05, 0x7E, 0x00, 0x01, 0x00, 0x2A, 0x52, 0xFF] ∧
    (after (.responseRead 6) (after (.nop 5 [0x2A]) live)).link.responses.length = 1 := by decide +kernel

/-- R176: memory READY, eight entries free, no response, no link fault. -/
theorem test_status_read : (after (.statusRead 6) live).link.sdo = [0, 0x02, 8, 0, 0, 0, 0xFF] := by decide +kernel

/-- Section 11.8, the worked sequence: 20 bursts issued and 18 completed when ABORT with purge arrives. -/
theorem test_abort_with_purge :
    let s := { spanning .writing 20 18 [] with link := busyLink (some anEntry) [anEntry] [] };
    (after (.abort [1]) s).host.abort = true ∧ (after (.abort [1]) s).link.commands = [{ anEntry with purged := true }] := by
  decide +kernel

/-- R178: an ABORT that ends before its flag byte. -/
theorem test_abort_without_flag : (after (.abort []) live).link.faultKind = .truncated := by decide +kernel

theorem test_unknown_type : (after (.unknownType 0x99 3) live).link.faultKind = .unknownType ∧
    ((after (.unknownType 0x99 3) live).video.attn.entry 28).pending = 4 := by decide +kernel

theorem test_bad_command : answers (.badCommand 7 0x05 [1]) live = [(.badCommand, [])] := by decide +kernel

theorem test_slot_base :
    ((after (.slotBase 1 13 450) live).video.slot 13).base = 450 ∧
    answers (.slotBase 1 0 450) demo = [(.badState, [])] := by decide +kernel

/-- Section 11.9: slot 0 is READY (4), seen, of stream 0, sequence 5, committed 16, read by window 0. -/
theorem test_slot_query :
    answers (.slotQuery 1 0) demo =
      [(.ok, [0, 4, 4, 0, 0, 0, 5, 0, 0, 0, 16, 0, 0, 1, 0, 0, 0])] := by decide +kernel

theorem test_pin_newest : answers (.pin 1 0 0 0) demo = [(.ok, [0, 5, 0, 0, 0])] := by decide +kernel

/-- R25: a pool of three keeps two slots that are neither pinned nor leaving. -/
theorem test_pin_limit :
    answers (.pin 1 0 0 0) (demoWith fun v => v.setSlot 2 { v.slot 2 with pinned := true }) = [(.limit, [])] := by
  decide +kernel

/-- R26, R47: the unpin of the last slot ends the drain. -/
theorem test_unpin_ends_the_drain :
    let t := after (.unpin 1 2) (pinnedAs { Slot.reset with state := .detached, seq := 4 } .draining);
    (t.video.stream 0).state = .closed ∧ (t.video.attn.entry 0).pending = 16 := by decide +kernel

/-- R35, section 2.6: a frame that no window ever latched leaves during the drain and counts as unseen (log 41). -/
theorem test_unpin_counts_unseen :
    ((after (.unpin 1 2) (pinnedAs { Slot.reset with state := .detached, seq := 4 } .draining)).video.stream 0).unseen = 1 ∧
    ((after (.unpin 1 2)
      (pinnedAs { Slot.reset with state := .detached, seq := 4, seen := true } .draining)).video.stream 0).unseen = 0 := by
  decide +kernel

/-- Section 1.11: with bases 0 and 450 the regions of 1,843,200 bytes touch, with 449 they overlap. -/
def twoBases (n : BitVec 16) : State :=
  { live with video := Video.reset.setSlot 13 { Slot.reset with base := n } }

theorem test_stream_open :
    answers (.streamOpen 1 1 0 2 1280 720 40 1 0 [12, 13]) (twoBases 450) = [(.ok, [])] ∧
    answers (.streamOpen 1 1 0 2 1280 720 40 1 0 [12, 13]) (twoBases 449) = [(.overlap, [])] := by decide +kernel

/-- Section 1.11: line 719, burst 39 of slot 13. -/
theorem test_burst_address :
    (after (.streamOpen 1 1 0 2 1280 720 40 1 0 [12, 13]) (twoBases 450)).video.burstAddr 13 719 39 = 3686336 := by
  decide +kernel

theorem test_stream_start :
    ((after (.streamStart 1 0) (demoStates .opened .bound)).video.input 0).state = .armed ∧
    ((after (.streamStart 1 0) (demoStates .opened .bound)).video.input 0).lossTimer = some 0 := by decide +kernel

theorem test_stop_after_frame :
    ((after (.streamStopAfterFrame 1 0) demo).video.stream 0).state = .stopping ∧
    ((after (.streamStopAfterFrame 1 0) demo).video.input 0).stopPending = true := by decide +kernel

theorem test_stop_now :
    let v := (after (.streamStopNow 1 0) demo).video;
    (v.stream 0).state = .opened ∧ (v.slot 1).state = .empty ∧ (v.stream 0).abandoned = 1 ∧ (v.input 0).state = .bound := by
  decide +kernel

/-- R9, R41: the abandoned slot departs when it is leaving; a window that chases it is forced to its fallback. -/
theorem test_stop_now_leaving_and_chased :
    (let v := (after (.streamStopNow 1 0) (demoWith fun v => v.setSlot 1 { v.slot 1 with leaving := true })).video;
      (v.slot 1).state = .spare ∧ (v.stream 0).pool = [0, 2]) ∧
    (let v := (after (.streamStopNow 1 0) { demo with video := chasingVideo (some 0) }).video;
      (v.window 0).state = .showing ∧ (v.window 0).current = some 0 ∧ (v.window 0).chaseFaults = 1) := by decide +kernel

/-- R14, R83: a discard forces every chasing window out, and the leaving slot departs. -/
theorem test_discard_chased :
    let v := (chasedTwice true).complete 1 6;
    (v.slot 1).state = .spare ∧ (v.stream 0).discarded = 1 ∧
    ((v.window 0).state = .showing ∧ (v.window 0).current = some 0) ∧
    ((v.window 1).state = .idle ∧ (v.window 1).current = none ∧ (v.window 1).chaseFaults = 1) := by decide +kernel

/-- R43: slot 0 is held by window 0, so that the stream drains with one slot left. -/
theorem test_stream_close :
    answers (.streamClose 1 0) demo = [(.ok, [4, 1])] ∧
    ((after (.streamClose 1 0) demo).video.slot 0).state = .detached := by decide +kernel

/-- R132, the third way: a unit that follows the closed stream is in HOLDOVER, its port's frames nominal. -/
theorem test_stream_close_loses_the_reference :
    let v := (after (.streamClose 1 0) { demo with video := lockVideo .locked 3 0 }).video;
    (v.lock 0).state = .holdover ∧ (v.lock 0).countdown = 1 ∧ (v.port 0).nextTotal = 1125 := by decide +kernel

/-- R113, R79: the fetcher requests line 2 of the chased slot and waits at line 3, of which nothing is committed. -/
theorem test_fetch_waits :
    (((fetchingAt (chasingVideo none) 2 0 2).pump 0).port 0).wait =
      some { layer := 0, slot := 1, srcLine := 3, line := 3 } := by decide +kernel

/-- R113: from line 5 of an emission line 5 the fetcher runs three lines ahead, one burst a line. -/
theorem test_fetch_lead :
    let pt := ((fetchingAt demoVideo 5 0 5).pump 0).port 0
    pt.fetchLine = some 8 ∧ pt.fetchLayer = 4 ∧ pt.pendingReads.map PendingRead.srcLine = [5, 6, 7, 8] := by decide +kernel

theorem test_pool_grow :
    answers (.poolGrow 1 0 9) (demoWith fun v => v.setSlot 9 { Slot.reset with base := 0xFFFF }) = [(.ok, [4])] ∧
    answers (.poolGrow 1 0 9) demo = [(.overlap, [])] := by decide +kernel

/-- R45: a pool of two keeps both, and an EMPTY slot of a pool of three departs at once. -/
theorem test_pool_shrink :
    answers (.poolShrink 1 1 3) demo = [(.limit, [])] ∧ answers (.poolShrink 1 0 2) demo = [(.ok, [0])] := by
  decide +kernel

theorem test_stream_query :
    (answers (.streamQuery 1 0 0) demo).map (fun a => a.2.take 4) = [[2, 0, 2, 16]] := by decide +kernel

/-- R69: a dest outside the active area is refused. -/
theorem test_window_set :
    answers (.windowSet 1 1 0 0 0 16 16 16 0 1 1 0) demo = [(.badArg, [])] ∧
    ((after (.windowSet 1 1 0 0 0 16 16 15 0 1 1 9) demo).video.window 1).state = .idle := by decide +kernel

theorem test_cadence_set :
    ((after (.cadenceSet 1 8 [3, 2]) demo).video.window 8).cadence = [3, 2] ∧
    answers (.cadenceSet 1 8 [3, 0]) demo = [(.badArg, [])] := by decide +kernel

theorem test_window_clear :
    let v := (after (.windowClear 1 0) demo).video;
    (v.window 0).state = .clear ∧ (v.slot 0).readers = 0 := by decide +kernel

theorem test_window_query : (answers (.windowQuery 1 0 0) demo).map (fun a => a.2.take 2) = [[2, 0]] := by decide +kernel

/-- R103: marks out of order, and a timeout that the timer has already reached. -/
theorem test_ingest_set :
    answers (.ingestSet 1 0 9 5 4) demo = [(.badArg, [])] ∧
    ((after (.ingestSet 1 0 7 4 5) demo).video.input 0).state = .lost := by decide +kernel

theorem test_ingest_query : (answers (.ingestQuery 1 0 0) demo).map (fun a => a.2.take 2) = [[3, 0]] := by decide +kernel

/-- R120: total lines of 18 leave no bottom blank line for 2 + 16, and 19 leave one. -/
theorem test_port_set :
    answers (.portSet 1 2 2 16 16 2 18 32 0 0 1) demo = [(.badArg, [])] ∧
    answers (.portSet 1 2 2 16 16 2 19 32 0 0 1) demo = [(.ok, [])] := by decide +kernel

theorem test_port_on : ((after (.portOn 1 1) demo).video.port 1).lineCounter = 39 := by decide +kernel

theorem test_port_off :
    let v := (after (.portOff 1 0) demo).video;
    (v.port 0).on = false ∧ (v.window 0).state = .idle ∧ (v.slot 0).readers = 0 := by decide +kernel

theorem test_port_query : (answers (.portQuery 1 1 0) demo).map (fun a => a.2.take 3) = [[0, 1, 2]] := by decide +kernel

/-- Section 7.11: with 41 + 1080 of 1125 lines a bend of 3 is admitted, one of 4 is not. -/
theorem test_lock_set :
    let s := demoWith fun v =>
      v.setPort 1 { v.port 1 with topBlank := 41, activeLines := 1080, totalLines := 1125, on := true };
    ((after (.lockSet 1 1 3 4 2 3) s).video.lock 1).state = .acquiring ∧
    (answers (.lockSet 1 1 3 4 2 4) s).map Prod.fst ≠ [.ok] := by decide +kernel

theorem test_lock_clear :
    ((after (.lockClear 1 0) { demo with video := lockVideo .locked 1 0 }).video.lock 0).state = .unlocked := by
  decide +kernel

theorem test_memory_query : (answers (.memoryQuery 1 0) live).map (fun a => a.2.take 2) = [[1, 1]] := by decide +kernel

theorem test_frame_begin : answers (.frameBegin 1 1) demo = [(.ok, [3, 1, 0, 0, 0])] := by decide +kernel

theorem test_span_write :
    (after (.spanWrite 1 1 2 0 64 aBurst.toList) (hostFrame .running)).host.startAddr = 3 * 4096 + 2 * 64 ∧
    answers (.spanWrite 1 1 16 0 64 aBurst.toList) (hostFrame .running) = [(.badArg, [])] := by decide +kernel

theorem test_frame_publish :
    let v := (after (.framePublish 1 1) (hostFrame .running)).video;
    (v.slot 3).state = .ready ∧ (v.slot 3).committed = 16 ∧ (v.stream 1).newest = 1 := by decide +kernel

/-- R9, R156: the slot of the frame that was the newest departs when it is leaving and unheld. -/
theorem test_frame_publish_departs :
    let v := fun held => (after (.framePublish 1 1) (hostFrameAfter held)).video;
    ((v false).slot 4).state = .spare ∧ ((v false).stream 1).pool = [3] ∧ ((v true).slot 4).state = .ready := by
  decide +kernel

theorem test_frame_abandon :
    let v := (after (.frameAbandon 1 1) (hostFrame .stopping)).video;
    (v.slot 3).state = .empty ∧ (v.stream 1).state = .opened := by decide +kernel

theorem test_span_read :
    answers (.spanRead 1 0 0 0 64) demo = [(.badState, [])] ∧
    (after (.spanRead 1 2 1 0 64) (pinnedAs { Slot.reset with state := .ready, base := 2 } .running)).host.startAddr
      = 2 * 4096 + 64 := by decide +kernel

/-- Section 10, the example: entry 1 holds OVERFLOW of OVERFLOW and DRAINED, entry 17 UNDERRUN of CHASE_FAULT and
MISMATCH. -/
def exampleAttn : Attention :=
  { entries := (Attention.reset.entries.set 1 { pending := 4, enabled := 20 }).set 17 { pending := 1, enabled := 6 }
    line := true }

theorem test_attn_read :
    answers (.attnRead 1) (demoWith fun v => { v with attn := exampleAttn }) = [(.ok, [1, 4, 20, 17, 1, 6])] := by
  decide +kernel

theorem test_attn_clear_releases_the_line :
    (after (.attnClear 1 1 4) (demoWith fun v => { v with attn := exampleAttn })).video.attn.line = false := by
  decide +kernel

theorem test_attn_mask_asserts_the_line :
    (after (.attnMask 1 17 1) (demoWith fun v => { v with attn := { exampleAttn with line := false } })).video.attn.line
      = true ∧
    answers (.attnMask 1 17 8) demo = [(.badArg, [])] := by decide +kernel

theorem test_nop : answers (.nop 1 [1, 2, 3]) demo = [(.ok, [1, 2, 3])] := by decide +kernel

/-- R179: with nothing in flight the soft reset ends at once and keeps the calibration. -/
theorem test_reset :
    (after (.reset 1) demo).video = Video.reset ∧ (after (.reset 1) demo).channel.cal = .ready ∧
    answers (.reset 1) demo = [(.ok, [])] := by decide +kernel

theorem test_reset_point :
    (after .resetPoint (draining [.hostWrite 128 0 aBurst])).byteAt 191 = 7 ∧
    answers .resetPoint (draining [.hostWrite 128 0 aBurst]) = [(.ok, [])] := by decide +kernel

theorem test_span_write_end :
    answers .spanWriteEnd (spanning .writing 4 3 [.hostWrite 64 3 aBurst]) = [(.ok, [0, 1])] := by decide +kernel

theorem test_span_read_end :
    (answers .spanReadEnd (spanning .reading 4 3 [.hostRead 64 3])).map (fun a => a.2.length) = [256] := by decide +kernel

/-- Section 11.8: 20 bursts were issued when ABORT came, so that 1280 bytes were written; a span read gives no
data. -/
theorem test_aborted_span_end :
    answers .spanWriteEnd (abortedSpan .writing [] (.hostWrite 64 19 aBurst)) = [(.aborted, [0x00, 0x05])] ∧
    answers .spanReadEnd (abortedSpan .reading [] (.hostRead 64 19)) = [(.aborted, [])] := by decide +kernel

/-- Section 11.8, the worked sequence, step 4: with the end of the span the four purged commands and the NOP of tag 6 are
answered. -/
theorem test_span_end_takes_waiting_commands :
    let purged := List.replicate 4 { anEntry with purged := true }
    let nop : CmdEntry := { tag := 6, code := 0x7E, payload := [4], purged := false };
    answers .spanWriteEnd (abortedSpan .writing (purged ++ [nop]) (.hostWrite 64 19 aBurst))
      = [(.aborted, [0x00, 0x05])] ++ List.replicate 4 (.purged, []) ++ [(.ok, [4])] := by decide +kernel

/-- R96: a frame start while capturing ends the frame, which is short, and takes the next slot. -/
theorem test_frame_start_ends_the_frame :
    let v := (after (.inputFrameStart 0) demo).video;
    (v.slot 1).damage = 2 ∧ (v.slot 1).state = .ready ∧ (v.slot 2).state = .filling ∧ (v.slot 2).seq = 7 := by
  decide +kernel

/-- R94, R14: three of sixteen lines make a short frame, which an empty discard mask publishes. -/
theorem test_frame_end :
    let v := (after (.inputFrameEnd 0) demo).video;
    (v.slot 1).state = .ready ∧ (v.slot 1).damage = 2 ∧ (v.stream 0).newest = 6 ∧ (v.attn.entry 0).pending = 8 := by
  decide +kernel

/-- R101, R102: an orphan in flight with the frame's slot and sequence does not hold the frame's completion back; a
burst of its own does. -/
theorem test_frame_end_with_an_orphan :
    let s := fun n => { flying [.ingestWrite 0 64 aTag aBurst] with
      video := demoVideo.setInput 0 { demoVideo.input 0 with orphans := n } };
    ((after (.inputFrameEnd 0) (s 1)).video.slot 1).state = .ready ∧
    ((after (.inputFrameEnd 0) (s 0)).video.slot 1).state = .completing := by decide +kernel

theorem test_line_start : ((after (.inputLineStart 0) demo).video.input 0).lineOpen = true := by decide +kernel

/-- R93: a line without a pixel has the wrong length and is committed. -/
theorem test_line_end :
    let v := (after (.inputLineEnd 0) { demo with video := openLine 0 }).video;
    (v.slot 1).committed = 4 ∧ (v.slot 1).damage = 8 := by decide +kernel

/-- R91: the pixel's bytes, lowest lane first; the 64th byte forms a burst. -/
theorem test_pixel :
    ((after (.pixel 0 0x44332211) { demo with video := openLine 61 }).video.input 0).packer.drop 61 = [0x11, 0x22] ∧
    ((after (.pixel 0 0x44332211) { demo with video := openLine 62 }).video.input 0).fifo.length = 1 := by decide +kernel

theorem test_loss_timeout :
    let v := (after (.lossTimeout 0) demo).video;
    (v.input 0).state = .lost ∧ (v.stream 0).lost = 1 ∧ (v.slot 1).state = .empty ∧ (v.attn.entry 0).pending = 1 := by
  decide +kernel

/-- R145: the URGENT pointer moves past the port that was granted. -/
theorem test_grant :
    (after .grant (requesting 24 [])).channel.urgentPtr = 1 ∧
    (after .grant (requesting 24 [])).channel.inFlight = [.ingestWrite 0 (4096 + 2 * 64) aTag aBurst] := by decide +kernel

theorem test_transfer_complete :
    (after .transferComplete (flying [.hostWrite 64 0 aBurst])).mem.length = 64 ∧
    (after .transferComplete (flying [.hostWrite 64 0 (Vector.replicate 64 0)])).mem = [] := by decide +kernel

/-- R110: line 18 is the last of 19, so that the next line start begins a frame. -/
theorem test_line_start_begins_a_frame :
    ((after (.lineStart 0) (atLine 18 none)).video.port 0).lineCounter = 0 ∧
    ((after (.lineStart 0) (atLine 18 none)).video.port 0).pins.fsync = true := by decide +kernel

/-- R83, R124: a line granted in full before a forced switch without a fallback is shown (log 11). -/
theorem test_kept_line_is_shown :
    let v := painted none .fetch [(0, aBurst)]
    let keep := fun pt : Port => { pt with
      stores := pt.stores.map fun ls => ls.modPart 0 fun part => { part with kept := true } }
    (v.setPort 0 (keep (v.port 0))).paintAt 0 0 15 = .data 0x0707 ∧ v.paintAt 0 0 15 = .border := by decide +kernel

/-- An empty queue lets one millisecond pass (log 2): the loss timer of IN0 counts, and at 100 ms the input is lost. -/
theorem test_empty_queue :
    (match step demo with | .next t => (t.video.input 0).lossTimer | _ => none) = some 8 ∧
    (match step (demoWith fun v => v.setInput 0 { v.input 0 with lossTimer := some 99 }) with
      | .next t => (t.video.input 0).state | _ => .unbound) = .lost := by decide +kernel

/-- Section 7.3, the examples with a frame total of 1125. -/
theorem test_phase_errors :
    [0, 3, 562, 563, 1122].map (fun p => phaseError p 1125) = [0, 3, 562, -562, -3] := by decide

end Sys2Proof.Tests
end

section
/-! SUPPORT. The producer's claims on a slot (R11 to R13) and what they do to the chase waits on it (R80). -/

namespace Sys2Proof.Machine

/-! ## One change made at every scan-out port -/

/-- A change made at each port of a list without repetition: the other tables stay, and a port of the list is changed
once. -/
theorem Video.foldl_modPort (f : Port → Port) :
    ∀ (l : List PortId) (v : Video), l.Nodup →
      ∃ ps, l.foldl (fun v p => v.modPort p f) v = { v with ports := ps } ∧
        ∀ p : PortId, ps[p] = if p ∈ l then f (v.port p) else v.port p
  | [], v, _ => ⟨v.ports, rfl, fun p => by simp [Video.port]⟩
  | q :: l, v, h => by
    obtain ⟨hq, hl⟩ := List.nodup_cons.mp h
    obtain ⟨ps, heq, hps⟩ := Video.foldl_modPort f l (v.modPort q f) hl
    refine ⟨ps, heq, fun p => ?_⟩
    rw [hps p]
    by_cases hqp : q = p
    · subst hqp
      rw [if_neg hq, if_pos List.mem_cons_self, Video.modPort_port_self]
    · have hmem : p ∈ q :: l ↔ p ∈ l := List.mem_cons.trans (or_iff_right (Ne.symm hqp))
      simp only [Video.modPort_port_ne v hqp, hmem]

/-! ## Chase waits (R79, R80) -/

/-- R80: the port's wait ends when it is on the slot and `past` holds of its source line. -/
def Port.endWaitOn (i : SlotId) (past : Nat → Bool) (pt : Port) : Port :=
  { pt with wait := pt.wait.filter fun wt => !(decide (wt.slot = i) && past wt.srcLine) }

theorem Port.endWaitOn_ended {pt : Port} {wt : Wait} {i : SlotId} {past : Nat → Bool} (h : pt.wait = some wt)
    (ended : wt.slot = i ∧ past wt.srcLine) : pt.endWaitOn i past = pt.endWait := by
  simp [Port.endWaitOn, Port.endWait, h, ended]

theorem Port.endWaitOn_kept {pt : Port} {i : SlotId} {past : Nat → Bool}
    (h : ∀ wt, pt.wait = some wt → ¬ (wt.slot = i ∧ past wt.srcLine)) : pt.endWaitOn i past = pt := by
  have kept : pt.wait.filter (fun wt => !(decide (wt.slot = i) && past wt.srcLine)) = pt.wait := by
    cases hw : pt.wait with
    | none => rfl
    | some wt =>
      have stays : (decide (wt.slot = i) && past wt.srcLine) = false := by
        rw [← Bool.not_eq_true, Bool.and_eq_true, decide_eq_true_iff]
        exact h wt hw
      rw [Option.filter_some, stays]
      rfl
  rw [Port.endWaitOn, kept]

/-- R80: ending the waits on a slot changes the waits of the ports and nothing else. -/
theorem Video.endWaitsOn_eq (v : Video) (i : SlotId) (past : Nat → Bool) :
    ∃ ps, v.endWaitsOn i past = { v with ports := ps } ∧ ∀ p : PortId, ps[p] = (v.port p).endWaitOn i past := by
  have fold : v.endWaitsOn i past = allPorts.foldl (fun v p => v.modPort p (Port.endWaitOn i past)) v := by
    unfold Video.endWaitsOn
    congr 1
    funext v p
    split
    · next wt hw =>
      split
      · next ended => rw [Video.modPort, Video.modPort, Port.endWaitOn_ended hw ended]
      · next kept =>
        have hkept : ∀ wt', (v.port p).wait = some wt' → ¬ (wt'.slot = i ∧ past wt'.srcLine) := fun wt' hw' =>
          Option.some.inj (hw.symm.trans hw') ▸ kept
        rw [Video.modPort, Port.endWaitOn_kept hkept, Video.setPort_self]
    · next hw => rw [Video.modPort, Port.endWaitOn_kept (by simp [hw]), Video.setPort_self]
  obtain ⟨ps, heq, hps⟩ := Video.foldl_modPort (Port.endWaitOn i past) allPorts v (List.nodup_finRange 4)
  exact ⟨ps, fold.trans heq, fun p => (hps p).trans (if_pos (List.mem_finRange p))⟩

/-! ## Claims of producers (R11 to R13) -/

theorem Video.claimReaches_iff (v : Video) (i : SlotId) (q : Seq) :
    v.claimReaches i q = true ↔
      (v.slot i).seq = q ∧ ((v.slot i).state = .filling ∨ (v.slot i).state = .completing) := by
  simp [Video.claimReaches]

theorem Video.claimReaches_eq_false_iff (v : Video) (i : SlotId) (q : Seq) :
    v.claimReaches i q = false ↔
      (v.slot i).seq ≠ q ∨ (v.slot i).state ≠ .filling ∧ (v.slot i).state ≠ .completing := by
  rw [← Bool.not_eq_true, Video.claimReaches_iff, Classical.not_and_iff_not_or_not, not_or]

/-- R11: a commit that does not raise the count is ignored. -/
theorem Video.commit_of_le {v : Video} {i : SlotId} {n : Nat} (hn : n ≤ (v.slot i).committed) (q : Seq) :
    v.commit i q n = v := by
  simp [Video.commit, Nat.not_lt.mpr hn]

/-- R11, R80: a commit that raises the count. -/
theorem Video.commit_of_lt {v : Video} {i : SlotId} {q : Seq} {n : Nat} (hr : v.claimReaches i q = true)
    (hn : (v.slot i).committed < n) :
    v.commit i q n =
      (v.setSlot i { v.slot i with committed := n }).endWaitsOn i fun line => decide (line < n) := by
  simp [Video.commit, hr, hn, Video.modSlot]

/-- R13: a slot that is COMPLETING already stays as it is. -/
theorem Video.endClaim_eq (v : Video) (i : SlotId) (q : Seq) :
    v.endClaim i q =
      if v.claimReaches i q = true then v.setSlot i { v.slot i with state := .completing } else v := by
  cases hr : v.claimReaches i q with
  | false =>
    rw [Video.claimReaches_eq_false_iff] at hr
    rcases hr with hseq | ⟨hf, -⟩
    · simp [Video.endClaim, hseq]
    · simp [Video.endClaim, hf]
  | true =>
    obtain ⟨hseq, hf | hc⟩ := (v.claimReaches_iff i q).mp hr
    · simp [Video.endClaim, Video.modSlot, hseq, hf]
    · have same : { v.slot i with state := .completing } = v.slot i := by rw [← hc]
      simp [Video.endClaim, hc, same]

end Sys2Proof.Machine
end

section
/-! SUPPORT. SLOT_BASE and SLOT_QUERY (section 1.8) and the slot record they answer with (section 11.9). -/

namespace Sys2Proof.Machine

/-- R23. -/
theorem cmdSlotBase_spare {s : State} {i : SlotId} (base : BitVec 16) (h : (s.video.slot i).state = .spare) :
    cmdSlotBase (natByte i.val) base s =
      answerOk (s.withVideo (s.video.setSlot i { s.video.slot i with base := base })) [] := by
  rw [cmdSlotBase, slotOf_natByte]
  exact if_neg (not_not_intro h)

/-- R24. -/
theorem cmdSlotQuery_natByte (s : State) (i : SlotId) :
    cmdSlotQuery (natByte i.val) s = answerOk s (slotRecord i (s.video.slot i)) := by
  simp [cmdSlotQuery]

/-- The flag byte of the slot record (section 11.9): leaving 1, pinned 2 and seen 4. -/
def slotFlags (sl : Slot) : Byte :=
  (if sl.leaving then 1 else 0) ||| (if sl.pinned then 2 else 0) ||| (if sl.seen then 4 else 0)

/-- The three flags stand in different bits. -/
theorem slotFlags_toNat (sl : Slot) :
    (slotFlags sl).toNat =
      (if sl.leaving then 1 else 0) + (if sl.pinned then 2 else 0) + (if sl.seen then 4 else 0) := by
  have bits : ∀ a b c : Bool,
      ((if a then 1 else 0) ||| (if b then 2 else 0) ||| (if c then 4 else 0) : Byte).toNat =
        (if a then 1 else 0) + (if b then 2 else 0) + (if c then 4 else 0) := by decide
  exact bits sl.leaving sl.pinned sl.seen

theorem slotRecord_eq (i : SlotId) (sl : Slot) :
    slotRecord i sl =
      [natByte i.val, sl.state.number, slotFlags sl, optByte sl.owner]
        ++ bytes16 sl.base ++ bytes32 sl.seq ++ natBytes16 sl.committed ++ [sl.damage.setWidth 8]
        ++ bytes16 sl.readers ++ bytes16 sl.owed := rfl

/-- A host command that finds the link free and is answered OK. -/
theorem State.command_answerOk {s : State} (h : LinkFree s) (tag : Byte) (c : HostCmd) {v : Video} {p : List Byte}
    (hc : c.payload.length ≤ Config.maxPayload) (hr : runCmd c s = answerOk (s.withVideo v) p) :
    s.command tag c = s.carriedOut tag c.code p v :=
  State.command_done h tag c hc hr

end Sys2Proof.Machine
end

section
/-! The statements about frame slots (Chapter 1): producers' claims, SLOT_BASE and SLOT_QUERY. -/

namespace Sys2Proof.Machine

/-- Settles O23, by whether the claim reaches the slot's frame. -/
theorem producerClaims : Obligations.ProducerClaims := by
  intro v i q
  refine ⟨fun n k ignored => ?_, fun hseq hstate => ?_⟩
  · have hr := (v.claimReaches_eq_false_iff i q).mpr ignored
    exact ⟨Video.commit_ignored hr, by simp [Video.markDamage_eq, hr], by simp [Video.endClaim_eq, hr]⟩
  · have hr := (v.claimReaches_iff i q).mpr ⟨hseq, hstate⟩
    refine ⟨fun n hn => Video.commit_of_le hn q, fun n hn => ?_, fun k => ?_, ?_⟩
    · rw [Video.commit_of_lt hr hn]
      exact Video.endWaitsOn_eq (v.setSlot i { v.slot i with committed := n }) i _
    · simp [Video.markDamage_eq, hr]
    · simp [Video.endClaim_eq, hr]

/-- Settles O18: each command is taken at once and answers what its rule says. -/
theorem slotBaseAndQuery : Obligations.SlotBaseAndQuery := by
  intro s tag i free
  refine ⟨fun base spare => ?_, slotFlags (s.video.slot i), slotFlags_toNat _, ?_⟩
  · have taken : s.command tag (.slotBase (natByte i.val) base) = _ :=
      State.command_answerOk free tag _ (by simp [HostCmd.payload, bytes16, Config.maxPayload])
        (cmdSlotBase_spare base spare)
    exact congrArg Host.Outcome.next taken
  · have taken : s.command tag (.slotQuery (natByte i.val)) = _ :=
      State.command_answerOk free tag _ (by simp [HostCmd.payload, Config.maxPayload]) (cmdSlotQuery_natByte s i)
    refine (congrArg Host.Outcome.next taken).trans ?_
    rw [slotRecord_eq]
    cases (s.video.slot i).owner <;> rfl

end Sys2Proof.Machine
end

section
/-! SUPPORT. Folds over a table, and the claims that opening, starting and stopping a stream make on the tables: the
join and reopen claims, the claim on the source port, and the loss of a reference. -/

namespace Sys2Proof.Machine

/-! ## One change made at every record of a table -/

/-- A fold whose rounds each change one record, by `h`, changes every record of a list without repetition once. -/
theorem foldl_record {β ι γ : Type} [DecidableEq ι] (r : β → ι → γ) (f : β → ι → β) (h : γ → γ)
    (self : ∀ b i, r (f b i) i = h (r b i)) (other : ∀ b i j, i ≠ j → r (f b i) j = r b j) :
    ∀ (l : List ι) (b : β), l.Nodup → ∀ j, r (l.foldl f b) j = if j ∈ l then h (r b j) else r b j
  | [], _, _, _ => by simp
  | i :: l, b, nodup, j => by
    obtain ⟨hi, hl⟩ := List.nodup_cons.mp nodup
    rw [List.foldl_cons, foldl_record r f h self other l (f b i) hl j]
    by_cases hij : i = j
    · subst hij
      rw [if_neg hi, if_pos List.mem_cons_self, self]
    · have hmem : j ∈ i :: l ↔ j ∈ l := List.mem_cons.trans (or_iff_right (Ne.symm hij))
      simp only [other b i j hij, hmem]

/-! ## The join claim (R20) and the region check (R6) -/

/-- R20: the slot record after a join claim. -/
def Slot.joined (st : StreamId) (sl : Slot) : Slot :=
  if sl.state = .spare then { sl with state := .empty, owner := some st, leaving := false } else sl

theorem Slot.joined_spare {sl : Slot} (st : StreamId) (h : sl.state = .spare) :
    sl.joined st = { sl with state := .empty, owner := some st, leaving := false } := if_pos h

theorem Video.join_spare {v : Video} {i : SlotId} (st : StreamId) (h : (v.slot i).state = .spare) :
    v.join st i =
      (v.setSlot i ((v.slot i).joined st)).setStream st
        { v.stream st with pool := (v.stream st).pool ++ [i] } := by
  rw [Slot.joined_spare st h, Video.join, if_pos h]
  rfl

theorem Video.join_slot_self (v : Video) (st : StreamId) (i : SlotId) :
    (v.join st i).slot i = (v.slot i).joined st := by
  by_cases h : (v.slot i).state = .spare
  · simp [Video.join_spare st h]
  · simp [Video.join, Slot.joined, h]

theorem Video.join_slot_ne (v : Video) (st : StreamId) {i j : SlotId} (hij : i ≠ j) :
    (v.join st i).slot j = v.slot j := by
  by_cases h : (v.slot i).state = .spare
  · simp [Video.join_spare st h, hij]
  · simp [Video.join, h]

/-- R20: the slots of a list join one after another. -/
def Video.joinAll (v : Video) (st : StreamId) (l : List SlotId) : Video := l.foldl (fun v i => v.join st i) v

theorem Video.joinAll_cons (v : Video) (st : StreamId) (i : SlotId) (l : List SlotId) :
    v.joinAll st (i :: l) = (v.join st i).joinAll st l := rfl

theorem Video.joinAll_slot (v : Video) (st : StreamId) {l : List SlotId} (nodup : l.Nodup) (i : SlotId) :
    (v.joinAll st l).slot i = if i ∈ l then (v.slot i).joined st else v.slot i :=
  foldl_record Video.slot (fun v i => v.join st i) (Slot.joined st) (fun v i => v.join_slot_self st i)
    (fun v _ _ h => v.join_slot_ne st h) l v nodup i

/-- R20: SPARE slots that join stand at the end of the pool in their order, and no other table changes. -/
theorem Video.joinAll_eq (st : StreamId) :
    ∀ (l : List SlotId) (v : Video), l.Nodup → (∀ i ∈ l, (v.slot i).state = .spare) →
      ∃ ss, v.joinAll st l =
        { v.setStream st { v.stream st with pool := (v.stream st).pool ++ l } with slots := ss }
  | [], v, _, _ => ⟨v.slots, by rw [List.append_nil, Video.setStream_self]; rfl⟩
  | i :: l, v, nodup, spare => by
    obtain ⟨hi, hl⟩ := List.nodup_cons.mp nodup
    obtain ⟨hspare, rest⟩ := List.forall_mem_cons.mp spare
    have still : ∀ j ∈ l, ((v.join st i).slot j).state = .spare := fun j hj => by
      rw [Video.join_slot_ne v st (by rintro rfl; exact hi hj)]
      exact rest j hj
    obtain ⟨ss, heq⟩ := Video.joinAll_eq st l (v.join st i) hl still
    refine ⟨ss, ?_⟩
    rw [Video.joinAll_cons, heq, Video.join_spare st hspare]
    simp only [Video.setStream_stream_self, Video.setStream_setStream, List.append_assoc, List.singleton_append]
    rfl

theorem regionsMeet_iff (a la b lb : Nat) : regionsMeet a la b lb = true ↔ a < b + lb ∧ b < a + la := by
  simp [regionsMeet]

/-- R6: one joining slot passes the check exactly when it does not fail it. -/
theorem Video.regionFits_iff (v : Video) (pitch height : Nat) (joining : List SlotId) (i : SlotId) :
    v.regionFits pitch height joining i = true ↔ ¬ v.regionFails pitch height joining i := by
  simp only [Video.regionFits, Video.regionFails, Bool.and_eq_true, List.all_eq_true, not_or, not_exists, and_assoc]
  refine and_congr ?inside (and_congr (forall_congr' fun j => ?others) (forall_congr' fun j => ?joining))
  case inside => exact decide_eq_true_iff.trans Nat.not_lt.symm
  case others =>
    cases (v.slot j).owner with
    | none => simp
    | some x => simp [allSlots, ← Bool.not_eq_true, regionsMeet_iff, regionBytes, Decidable.or_iff_not_imp_left]
  case joining => simp [← Bool.not_eq_true, regionsMeet_iff, regionBytes, Decidable.or_iff_not_imp_left]

/-- R6: the check passes when no joining slot fails it. -/
theorem Video.regionCheck_iff (v : Video) (pitch height : Nat) (joining : List SlotId) :
    v.regionCheck pitch height joining = true ↔ ∀ i ∈ joining, ¬ v.regionFails pitch height joining i := by
  simp only [Video.regionCheck, List.all_eq_true, Video.regionFits_iff]

/-! ## The reopen claim (R38) -/

/-- R38: the window record after the reopen claim of stream `st`. -/
def Window.reopened (st : StreamId) (x : Window) : Window :=
  if x.stream = some st then { x with readySeq := 0 } else x

/-- R38: the reopen claim changes the windows of the stream and nothing else. -/
theorem Video.reopen_eq (v : Video) (st : StreamId) :
    ∃ ws, v.reopen st = { v with windows := ws } ∧ ∀ w : WindowId, ws[w] = (v.window w).reopened st := by
  have only : v.reopen st = { v with windows := (v.reopen st).windows } := by
    unfold Video.reopen
    refine List.foldlRecOn allWindows _ (motive := fun u : Video => u = { v with windows := u.windows }) rfl
      fun u hu w _ => ?_
    split
    · exact congrArg (fun v' : Video => v'.modWindow w fun x => { x with readySeq := 0 }) hu
    · exact hu
  refine ⟨_, only, fun w => ?_⟩
  refine (foldl_record Video.window _ (Window.reopened st) (fun u i => ?_) (fun u i j hij => ?_) allWindows v
    (List.nodup_finRange 16) w).trans (if_pos (List.mem_finRange w))
  · by_cases h : (u.window i).stream = some st <;> simp [Window.reopened, h]
  · by_cases h : (u.window i).stream = some st <;> simp [h, hij]

/-! ## The claim on the source port (R32) -/

/-- R32: a claim on the source of a stream changes the ingest port it names and nothing else. -/
theorem Video.onSource_eq (v : Video) (st : StreamId) (f : Ingest → Ingest) :
    ∃ gs, v.onSource st f = { v with ingest := gs } ∧
      ∀ p : PortId, gs[p] = if (v.stream st).source = some (.input p) then f (v.input p) else v.input p := by
  rcases hsrc : (v.stream st).source with _ | (q | _)
  · exact ⟨v.ingest, by simp [Video.onSource, hsrc], fun p => by simp [Video.input]⟩
  · refine ⟨(v.modInput q f).ingest, by simp [Video.onSource, hsrc, Video.modInput, Video.setInput], fun p => ?_⟩
    by_cases hqp : q = p
    · subst hqp
      exact (v.modInput_input_self q f).trans (if_pos rfl).symm
    · exact (v.modInput_input_ne hqp f).trans (if_neg (by simp [hqp])).symm
  · exact ⟨v.ingest, by simp [Video.onSource, hsrc], fun p => by simp [Video.input]⟩

theorem Video.onSource_host {v : Video} {st : StreamId} (h : (v.stream st).source = some .host)
    (f : Ingest → Ingest) : v.onSource st f = v := by
  simp [Video.onSource, h]

theorem Video.onSource_input {v : Video} {st : StreamId} {p : PortId} (h : (v.stream st).source = some (.input p))
    (f : Ingest → Ingest) : v.onSource st f = v.setInput p (f (v.input p)) := by
  simp [Video.onSource, h, Video.modInput]

theorem Ingest.arm_bound {g : Ingest} (h : g.state = .bound) : g.arm = { g with state := .armed, lossTimer := some 0 } :=
  if_pos h

theorem Ingest.disarm_of_not_capturing {g : Ingest} (h : g.state ≠ .capturing) :
    g.disarm = { g with state := .bound, lossTimer := none, stopPending := false } := by
  simp [Ingest.disarm, h]

theorem Ingest.disarmAfterFrame_capturing {g : Ingest} (h : g.state = .capturing) :
    g.disarmAfterFrame = { g with stopPending := true } := if_pos h

/-! ## The loss of a reference (R132) -/

/-- R132: a lock unit and its port after the loss of reference `st`. -/
def loseReferenceAt (st : StreamId) (x : LockUnit × Port) : LockUnit × Port :=
  if x.1.refStream = st ∧ (x.1.state = .acquiring ∨ x.1.state = .locked) then
    ({ x.1 with state := .holdover, countdown := 1 }, x.2.nominalNext)
  else x

theorem loseReferenceAt_fst (st : StreamId) (u : LockUnit) (pt : Port) :
    (loseReferenceAt st (u, pt)).1 =
      if u.refStream = st ∧ (u.state = .acquiring ∨ u.state = .locked) then
        { u with state := .holdover, countdown := 1 }
      else u := by
  unfold loseReferenceAt
  split <;> rfl

theorem loseReferenceAt_snd (st : StreamId) (u : LockUnit) (pt : Port) :
    (loseReferenceAt st (u, pt)).2 =
      if (u.refStream = st ∧ (u.state = .acquiring ∨ u.state = .locked)) ∧ pt.on = true then
        { pt with nextTotal := pt.totalLines }
      else pt := by
  by_cases lost : u.refStream = st ∧ (u.state = .acquiring ∨ u.state = .locked)
  · rw [loseReferenceAt, if_pos lost]
    by_cases on : pt.on = true
    · exact (if_pos on).trans (if_pos ⟨lost, on⟩).symm
    · exact (if_neg on).trans (if_neg fun h => on h.2).symm
  · rw [loseReferenceAt, if_neg lost, if_neg fun h => lost h.1]

/-- R132: the loss of a reference changes lock units and scan-out ports and nothing else. -/
theorem Video.loseReference_eq (v : Video) (st : StreamId) :
    ∃ us ps, v.loseReference st = { v with locks := us, ports := ps } ∧
      ∀ p : PortId, (us[p], ps[p]) = loseReferenceAt st (v.lock p, v.port p) := by
  have only : v.loseReference st =
      { v with locks := (v.loseReference st).locks, ports := (v.loseReference st).ports } := by
    unfold Video.loseReference
    refine List.foldlRecOn allPorts _ (motive := fun u : Video => u = { v with locks := u.locks, ports := u.ports }) rfl
      fun u hu p _ => ?_
    dsimp only
    split
    · exact congrArg
        (fun v' : Video =>
          (v'.modLock p fun u => { u with state := .holdover, countdown := 1 }).modPort p Port.nominalNext) hu
    · exact hu
  refine ⟨_, _, only, fun p => ?_⟩
  refine (foldl_record (fun v p => (v.lock p, v.port p)) _ (loseReferenceAt st) (fun u i => ?_)
    (fun u i j hij => ?_) allPorts v (List.nodup_finRange 4) p).trans (if_pos (List.mem_finRange p))
  · dsimp only
    split
    · next h => simp [loseReferenceAt, h]
    · next h => simp [loseReferenceAt, h]
  · dsimp only
    split <;> simp [hij]

/-! ## A stream opened, and stopped after its frame (R37, R38, R40) -/

/-- R37, R38: opening a stream changes its record, the slots of its pool, the windows of the stream and its source
port. -/
theorem Video.openStream_eq (v : Video) (st : StreamId) (x : Stream) {src : Source} {pool : List SlotId}
    (source : x.source = some src) (empty : x.pool = []) (nodup : pool.Nodup)
    (spare : ∀ i ∈ pool, (v.slot i).state = .spare) :
    ∃ ss ws gs, v.openStream st x pool =
        { v.setStream st { x with pool := pool } with slots := ss, windows := ws, ingest := gs } ∧
      (∀ i : SlotId, ss[i] = if i ∈ pool then (v.slot i).joined st else v.slot i) ∧
      (∀ w : WindowId, ws[w] = (v.window w).reopened st) ∧
      ∀ p : PortId, gs[p] = if src = .input p then (v.input p).bind st else v.input p := by
  obtain ⟨ss, joined⟩ := Video.joinAll_eq st pool (v.setStream st x) nodup spare
  have slots := Video.joinAll_slot (v.setStream st x) st nodup
  rw [joined] at slots
  obtain ⟨gs, bound, inputs⟩ := ((v.setStream st x).joinAll st pool).onSource_eq st fun g => g.bind st
  obtain ⟨ws, reopened, windows⟩ :=
    (((v.setStream st x).joinAll st pool).onSource st fun g => g.bind st).reopen_eq st
  refine ⟨ss, ws, gs, ?_, slots, ?_, ?_⟩
  · rw [Video.openStream]
    refine reopened.trans ?_
    rw [bound, joined]
    simp [empty]
  · rw [bound, joined] at windows
    exact windows
  · have kept : (((v.setStream st x).joinAll st pool).stream st).source = some src := by
      rw [joined]
      simp [Video.stream, Video.setStream, source]
    have same : ∀ p, ((v.setStream st x).joinAll st pool).input p = v.input p := fun p => by rw [joined]; rfl
    simpa [kept, same] using inputs

/-- The stream has a FILLING slot exactly when one of its pool is. -/
theorem Video.fillingOf_isSome_iff (v : Video) (st : StreamId) :
    (v.fillingOf st).isSome = true ↔ ∃ i ∈ (v.stream st).pool, (v.slot i).state = .filling := by
  simp [Video.fillingOf]

/-- A stream takes a state, and then makes a claim on its source port. -/
theorem Video.setState_onSource_eq (v : Video) (st : StreamId) (y : StreamState) (f : Ingest → Ingest) :
    ∃ gs, (v.modStream st fun x => { x with state := y }).onSource st f =
        { v.setStream st { v.stream st with state := y } with ingest := gs } ∧
      ∀ p : PortId, gs[p] = if (v.stream st).source = some (.input p) then f (v.input p) else v.input p := by
  have claim := (v.modStream st fun x => { x with state := y }).onSource_eq st f
  rw [Video.modStream_stream_self] at claim
  exact claim

/-- R40: STREAM_STOP AFTER_FRAME of a RUNNING stream. -/
theorem Video.stopAfterFrame_eq {v : Video} {st : StreamId} (running : (v.stream st).state = .running) :
    ∃ us ps gs, v.stopAfterFrame st =
        { v.setStream st
            { v.stream st with
              state := if (v.fillingOf st).isSome = true then .stopping else .opened } with
          locks := us, ports := ps, ingest := gs } ∧
      (∀ p : PortId, (us[p], ps[p]) = loseReferenceAt st (v.lock p, v.port p)) ∧
      ∀ p : PortId, gs[p] =
        if (v.stream st).source = some (.input p) then
          if (v.fillingOf st).isSome = true then (v.input p).disarmAfterFrame else (v.input p).disarm
        else v.input p := by
  obtain ⟨us, ps, lost, units⟩ := v.loseReference_eq st
  unfold Video.stopAfterFrame
  rw [Video.leaveRunning, if_pos running, lost]
  cases filling : (v.fillingOf st).isSome
  · obtain ⟨gs, claimed, inputs⟩ :=
      Video.setState_onSource_eq { v with locks := us, ports := ps } st .opened Ingest.disarm
    exact ⟨us, ps, gs, claimed, units, inputs⟩
  · obtain ⟨gs, claimed, inputs⟩ :=
      Video.setState_onSource_eq { v with locks := us, ports := ps } st .stopping Ingest.disarmAfterFrame
    exact ⟨us, ps, gs, claimed, units, inputs⟩

/-! ## STREAM_OPEN, STREAM_START and STREAM_STOP AFTER_FRAME (section 2.8) -/

@[simp] theorem sourceOf_sourceNumber (src : Source) : sourceOf (sourceNumber (some src)) = some src := by
  cases src with
  | input p => simp [sourceOf, sourceNumber]
  | host => decide

@[simp] theorem deliveryOf_number (d : Delivery) : deliveryOf d.number = some d := by
  cases d <;> rfl

theorem filterMap_slotOf_natByte (l : List SlotId) :
    (l.map fun i => natByte i.val).filterMap slotOf = l := by
  rw [List.filterMap_map, show slotOf ∘ (fun i : SlotId => natByte i.val) = some from funext slotOf_natByte,
    List.filterMap_some]

/-- STREAM_OPEN, fourth row: no other open stream has the port as its source. -/
theorem Video.sourceTaken_eq_false {v : Video} {st : StreamId} {src : Source}
    (free : ∀ p, src = .input p → ∀ x : StreamId, x ≠ st → (v.stream x).source = some src →
      (v.stream x).state = .closed) :
    v.sourceTaken st src = false := by
  cases src with
  | host => rfl
  | input p =>
    simp only [Video.sourceTaken, List.any_eq_false, Bool.and_eq_true, bne_iff_ne, beq_iff_eq]
    rintro x - ⟨⟨hx, hsrc⟩, used⟩
    exact used (free p rfl x hx hsrc)

/-- A damage mask as one byte has its upper four bits 0. -/
theorem damageByte_toNat_lt (mask : DamageSet) : (mask.setWidth 8).toNat < 16 := by
  have := mask.isLt
  simp only [BitVec.toNat_setWidth]
  omega

theorem HostCmd.streamOpen_payload_length (stream source bpp : Byte) (width height pitch : BitVec 16)
    (delivery mask : Byte) (pool : List Byte) :
    (HostCmd.streamOpen stream source bpp width height pitch delivery mask pool).payload.length = pool.length + 11 :=
  rfl

/-- R37: STREAM_OPEN that meets no row of its refusal table. -/
theorem cmdStreamOpen_natByte {s : State} {st : StreamId} {src : Source} {bpp : Byte} {width height pitch : BitVec 16}
    (d : Delivery) (mask : DamageSet) {slots : List SlotId}
    (closed : (s.video.stream st).state = .closed) (free : s.video.sourceTaken st src = false)
    (ranges : 2 ≤ bpp.toNat ∧ bpp.toNat ≤ 4 ∧ 16 ≤ width.toNat ∧ width.toNat ≤ 4096 ∧ 16 ≤ height.toNat ∧
      height.toNat ≤ 4096 ∧ 1 ≤ pitch.toNat ∧ pitch.toNat ≤ 1024 ∧ burstsOfLine width.toNat bpp.toNat ≤ pitch.toNat)
    (two : 2 ≤ slots.length) (eight : slots.length ≤ 8) (nodup : slots.Nodup)
    (spare : ∀ i ∈ slots, (s.video.slot i).state = .spare)
    (fits : s.video.regionCheck pitch.toNat height.toNat slots = true) (ready : s.channel.cal = .ready) :
    cmdStreamOpen (natByte st.val) (sourceNumber (some src)) bpp width height pitch d.number (mask.setWidth 8)
        (slots.map fun i => natByte i.val) s =
      answerOk
        (s.withVideo
          (s.video.openStream st
            (Stream.opening src bpp.toNat width.toNat height.toNat pitch.toNat d mask) slots)) [] := by
  have allSpare : ¬ (slots.any fun i => (s.video.slot i).state != .spare) = true := by simpa using spare
  have sizes : 2 ≤ slots.length ∧ slots.length ≤ 8 ∧ True ∧ slots.Nodup := ⟨two, eight, trivial, nodup⟩
  have mask_kept : (mask.setWidth 8).setWidth 4 = mask := by simp
  simp only [cmdStreamOpen, streamOf_natByte, sourceOf_sourceNumber, deliveryOf_number, filterMap_slotOf_natByte,
    List.length_map, mask_kept]
  rw [if_neg (not_not_intro closed), if_neg (by simp [free]), if_neg (not_not_intro ranges),
    if_neg (Nat.not_le.mpr (damageByte_toNat_lt mask)), if_neg (not_not_intro sizes), if_neg allSpare,
    if_neg (by simp [fits]), if_neg (by simp [State.dramReady, ready])]
  rfl

theorem cmdStreamStart_natByte {s : State} {st : StreamId} (h : (s.video.stream st).state = .opened) :
    cmdStreamStart (natByte st.val) s =
      answerOk
        (s.withVideo
          ((s.video.setStream st { s.video.stream st with state := .running }).onSource st Ingest.arm)) [] := by
  rw [cmdStreamStart, streamOf_natByte]
  exact if_neg (not_not_intro h)

theorem cmdStopAfterFrame_natByte {s : State} {st : StreamId} (h : (s.video.stream st).state = .running) :
    cmdStopAfterFrame (natByte st.val) s = answerOk (s.withVideo (s.video.stopAfterFrame st)) [] := by
  simp only [cmdStopAfterFrame, streamOf_natByte, h]
  rfl

end Sys2Proof.Machine
end

section
/-! The statements about streams (Chapter 2): STREAM_OPEN, STREAM_START and STREAM_STOP AFTER_FRAME. -/

namespace Sys2Proof.Machine

/-- Settles O29: no row of the refusal table is met, and the record of the stream, its slots, its windows and its port
are those of an opened stream. -/
theorem streamOpenResult : Obligations.StreamOpenResult := by
  intro s tag bpp st src width height pitch d mask slots free ready closed unshared hb hb' hw hw' hh hh' hp hp' hl
    two eight nodup spare
  dsimp only
  intro inside apart clear
  have fits : s.video.regionCheck pitch.toNat height.toNat slots = true := by
    rw [Video.regionCheck_iff]
    rintro i hi (outside | ⟨j, x, hj, -, meet⟩ | ⟨j, hj, hij, meet⟩)
    · exact absurd (inside i hi) (Nat.not_le.mpr outside)
    · have := clear i hi j x hj
      dsimp only at meet
      omega
    · have := apart i hi j hj (Ne.symm hij)
      dsimp only at meet
      omega
  have taken :
      s.command tag (.streamOpen (natByte st.val) (sourceNumber (some src)) bpp width height pitch d.number
        (mask.setWidth 8) (slots.map fun i => natByte i.val)) = _ :=
    State.command_answerOk free tag _
      (by rw [HostCmd.streamOpen_payload_length, List.length_map, Config.maxPayload]; omega)
      (cmdStreamOpen_natByte d mask closed (Video.sourceTaken_eq_false unshared)
        ⟨hb, hb', hw, hw', hh, hh', hp, hp', hl⟩ two eight nodup spare fits ready)
  obtain ⟨ss, ws, gs, opened, hslots, hwindows, hinputs⟩ :=
    s.video.openStream_eq st (Stream.opening src bpp.toNat width.toNat height.toNat pitch.toNat d mask) rfl rfl nodup
      spare
  refine ⟨_, congrArg Host.Outcome.next taken, ?_⟩
  rw [opened]
  refine ⟨rfl, ?_, fun x hx => ?_, fun i hi => ?_, fun i hi => ?_, hwindows, hinputs⟩
  · simp [Video.stream, Video.setStream, Stream.opening, Stream.reset]
  · exact Video.setStream_stream_ne _ (Ne.symm hx) _
  · exact (hslots i).trans ((if_pos hi).trans (Slot.joined_spare st (spare i hi)))
  · exact (hslots i).trans (if_neg hi)

/-- Settles O30, by the source of the stream. -/
theorem streamStartResult : Obligations.StreamStartResult := by
  intro s tag st free opened
  have taken : exec (.streamStart tag (natByte st.val)) s = .next (s.carriedOut tag 0x11 [] _) :=
    congrArg Host.Outcome.next
      (State.command_answerOk free tag (.streamStart (natByte st.val)) (by simp [HostCmd.payload, Config.maxPayload])
        (cmdStreamStart_natByte opened))
  refine ⟨fun host => ?_, fun p port bound => ?_⟩
  · rw [taken, Video.onSource_host (by simpa using host)]
  · rw [taken, Video.onSource_input (by simpa using port), Video.setStream_input, Ingest.arm_bound bound]

/-- Settles O31, by whether the stream has a FILLING slot. -/
theorem stopAfterFrameResult : Obligations.StopAfterFrameResult := by
  intro s tag st free running
  have taken : s.command tag (.streamStop (natByte st.val) 0) = _ :=
    State.command_answerOk free tag _ (by simp [HostCmd.payload, Config.maxPayload])
      (cmdStopAfterFrame_natByte running)
  obtain ⟨us, ps, gs, stopped, hunits, hinputs⟩ := Video.stopAfterFrame_eq running
  refine ⟨_, congrArg Host.Outcome.next taken, ?_⟩
  rw [stopped]
  simp only [← Video.fillingOf_isSome_iff]
  refine ⟨rfl, fun x => ?_, fun p hp => ?_, fun p hp => ⟨fun filling capturing => ?_, fun unfilled idle => ?_⟩,
    fun p => ?_⟩
  · by_cases hx : x = st
    · subst hx
      exact (Video.setStream_stream_self ..).trans (if_pos rfl).symm
    · exact (Video.setStream_stream_ne _ (Ne.symm hx) _).trans (if_neg hx).symm
  · exact (hinputs p).trans (if_neg hp)
  · exact (hinputs p).trans ((if_pos hp).trans ((if_pos filling).trans (Ingest.disarmAfterFrame_capturing capturing)))
  · have notFilling : ¬ (s.video.fillingOf st).isSome = true := fun filling => by
      obtain ⟨i, hi, hfilling⟩ := (s.video.fillingOf_isSome_iff st).mp filling
      exact unfilled i hi hfilling
    exact (hinputs p).trans
      ((if_pos hp).trans ((if_neg notFilling).trans (Ingest.disarm_of_not_capturing idle)))
  · exact ⟨(congrArg Prod.fst (hunits p)).trans (loseReferenceAt_fst ..),
      (congrArg Prod.snd (hunits p)).trans (loseReferenceAt_snd ..)⟩

end Sys2Proof.Machine
end

section
/-! SUPPORT. What a departure makes of the slots, and what a window still has of them once it has given up what it
holds and is discharged (R9, R17, R19, R65). -/

namespace Sys2Proof.Machine

/-! ## Departure (R9) -/

/-- R9: a departure makes its own slot SPARE and touches no other. -/
theorem Video.depart_slot (v : Video) (i j : SlotId) :
    (v.depart i).slot j =
      if i = j ∧ (v.slot i).owner ≠ none then { Slot.reset with base := (v.slot i).base } else v.slot j := by
  unfold Video.depart
  dsimp only
  cases owner : (v.slot i).owner with
  | none => simp
  | some st =>
    dsimp only
    split <;> split <;> simp [Video.setSlot_slot]

theorem Video.owner_of_departs {v : Video} {i : SlotId} (h : v.departs i = true) : (v.slot i).owner ≠ none :=
  fun unowned => by simp [Video.departs, unowned] at h

theorem Video.tryDepart_slot_ne (v : Video) {i j : SlotId} (h : i ≠ j) : (v.tryDepart i).slot j = v.slot j := by
  unfold Video.tryDepart
  split
  · rw [Video.depart_slot, if_neg fun both => h both.1]
  · rfl

/-- R9: a claim's departure leaves the slot as it is or makes it SPARE. -/
theorem Video.tryDepart_slot_self (v : Video) (i : SlotId) :
    (v.tryDepart i).slot i = if v.departs i = true then { Slot.reset with base := (v.slot i).base } else v.slot i := by
  unfold Video.tryDepart
  split
  · next h => rw [Video.depart_slot, if_pos ⟨rfl, Video.owner_of_departs h⟩]
  · rfl

/-- What holds of a slot, and of every slot just made SPARE, still holds after a departure. -/
theorem Video.tryDepart_slot_of {P : Slot → Prop} {v : Video} {j : SlotId} (i : SlotId)
    (spare : ∀ base, P { Slot.reset with base := base }) (h : P (v.slot j)) : P ((v.tryDepart i).slot j) := by
  by_cases hij : i = j
  · subst hij
    rw [Video.tryDepart_slot_self]
    split
    · exact spare _
    · exact h
  · rwa [Video.tryDepart_slot_ne v hij]

/-! ## The release claim (R17) -/

theorem Video.release_slot_ne (v : Video) (w : WindowId) {i j : SlotId} (h : i ≠ j) :
    (v.release w i).slot j = v.slot j := by
  unfold Video.release
  dsimp only
  split
  · split <;> simp [Video.tryDepart_slot_ne, h]
  · rfl

/-- R17: the window reads the slot no more; a reader's slot is neither SPARE nor EMPTY (R16). -/
theorem Video.release_unread {v : Video} {w : WindowId} {i : SlotId}
    (held : winHas (v.slot i).readers w = true → (v.slot i).state ≠ .spare ∧ (v.slot i).state ≠ .empty) :
    winHas ((v.release w i).slot i).readers w = false := by
  cases reads : winHas (v.slot i).readers w with
  | false => rw [Video.release_none reads, reads]
  | true =>
    obtain ⟨notSpare, notEmpty⟩ := held reads
    have dropped :
        winHas ((v.setSlot i { v.slot i with readers := winDrop (v.slot i).readers w }).slot i).readers w = false := by
      simp [winHas_winDrop]
    have departed := Video.tryDepart_slot_of (P := fun sl => winHas sl.readers w = false) i
      (fun _ => winHas_zero w) dropped
    rw [Video.release_eq reads]
    cases state : (v.slot i).state with
    | ready => exact departed
    | detached => exact departed
    | filling => exact dropped
    | completing => exact dropped
    | empty => exact absurd state notEmpty
    | spare => exact absurd state notSpare

theorem Video.releaseOpt_slot_ne (v : Video) (w : WindowId) {o : Option SlotId} {j : SlotId} (h : o ≠ some j) :
    (v.releaseOpt w o).slot j = v.slot j := by
  cases o with
  | none => rfl
  | some i => exact Video.release_slot_ne v w fun hij => h (congrArg some hij)

/-! ## The discharge of a window (R19) -/

/-- What holds of a slot, of every slot just made SPARE, and of a slot no longer owed to the window, still holds after a
discharge. -/
theorem Video.dischargeSlot_slot_of {P : Slot → Prop} {v : Video} {w : WindowId} {j : SlotId} (i : SlotId)
    (spare : ∀ base, P { Slot.reset with base := base })
    (drop : ∀ sl, P sl → P { sl with owed := winDrop sl.owed w }) (h : P (v.slot j)) :
    P ((v.dischargeSlot w i).slot j) := by
  unfold Video.dischargeSlot
  split
  · refine Video.tryDepart_slot_of i spare ?_
    rw [Video.modSlot_slot]
    split
    · next hij => exact drop _ (hij ▸ h)
    · exact h
  · exact h

/-- R19: the discharge makes no slot owed to a window. -/
theorem Video.dischargeSlot_unowed {v : Video} {k : WindowId} {j : SlotId} (w : WindowId) (i : SlotId)
    (h : winHas (v.slot j).owed k = false) : winHas ((v.dischargeSlot w i).slot j).owed k = false :=
  Video.dischargeSlot_slot_of (P := fun sl => winHas sl.owed k = false) i (fun _ => winHas_zero k)
    (fun sl hsl => by simp [winHas_winDrop, hsl]) h

theorem Video.dischargeSlot_self (v : Video) (w : WindowId) (i : SlotId) :
    winHas ((v.dischargeSlot w i).slot i).owed w = false := by
  unfold Video.dischargeSlot
  split
  · exact Video.tryDepart_slot_of (P := fun sl => winHas sl.owed w = false) i (fun _ => winHas_zero w)
      (by simp [winHas_winDrop])
  · next h => simpa using h

/-- Each round of a fold sets what it is about, and no round undoes it. -/
theorem foldl_establishes {β ι : Type} (P : ι → β → Prop) (f : β → ι → β) (sets : ∀ b i, P i (f b i))
    (keeps : ∀ b i j, P j b → P j (f b i)) : ∀ (l : List ι) (b : β), ∀ j ∈ l, P j (l.foldl f b)
  | [], _, _, hj => absurd hj List.not_mem_nil
  | i :: l, b, j, hj => by
    rw [List.foldl_cons]
    rcases List.mem_cons.mp hj with rfl | hj
    · exact List.foldlRecOn l f (motive := P j) (sets b j) fun b h i _ => keeps b i j h
    · exact foldl_establishes P f sets keeps l (f b i) j hj

/-- R19: the discharge makes no window a reader. -/
theorem Video.dischargeAll_unread {v : Video} {k : WindowId} {j : SlotId} (w : WindowId)
    (h : winHas (v.slot j).readers k = false) : winHas ((v.dischargeAll w).slot j).readers k = false :=
  List.foldlRecOn allSlots _ (motive := fun u : Video => winHas (u.slot j).readers k = false) h fun _ hu i _ =>
    Video.dischargeSlot_slot_of (P := fun sl => winHas sl.readers k = false) i (fun _ => winHas_zero k)
      (fun _ hsl => hsl) hu

/-- R19: after the discharge from every slot no slot is owed to the window. -/
theorem Video.dischargeAll_unowed (v : Video) (w : WindowId) (j : SlotId) :
    winHas ((v.dischargeAll w).slot j).owed w = false :=
  foldl_establishes (fun j (u : Video) => winHas (u.slot j).owed w = false) _
    (fun u i => u.dischargeSlot_self w i) (fun _ i _ hu => Video.dischargeSlot_unowed w i hu) allSlots v j
    (List.mem_finRange j)

/-! ## Giving up what a window holds (R65) -/

/-- R65: the window record with current and fallback none. -/
def Window.withoutHoldings (x : Window) : Window := { x with current := none, fallback := none }

/-- R65, R86: the window's record, its releases, the end of a wait on it, and its kept lines, in this order. -/
theorem Video.giveUp_eq (v : Video) (w : WindowId) :
    v.giveUp w =
      ((((v.modWindow w Window.withoutHoldings).releaseOpt w (v.window w).current).releaseOpt w
        (v.window w).fallback).endWaitOf w).modPort (portOf w) fun pt => pt.dropKept (layerOf w) := rfl

/-- R65: of the windows only the one that gives up changes, and it holds nothing. -/
theorem Video.giveUp_windows (v : Video) (w : WindowId) :
    (v.giveUp w).windows = (v.modWindow w Window.withoutHoldings).windows := by
  simp [Video.giveUp_eq]

/-- R65: the slot table after a window has given up its holdings. -/
theorem Video.giveUp_slots (v : Video) (w : WindowId) :
    (v.giveUp w).slots =
      (((v.modWindow w Window.withoutHoldings).releaseOpt w (v.window w).current).releaseOpt w
        (v.window w).fallback).slots := by
  simp [Video.giveUp_eq]

theorem Video.slot_of_slots {u v : Video} (h : u.slots = v.slots) (i : SlotId) : u.slot i = v.slot i :=
  congrArg (fun t : Vector Slot 64 => t[i]) h

theorem Video.window_of_windows {u v : Video} (h : u.windows = v.windows) (k : WindowId) : u.window k = v.window k :=
  congrArg (fun t : Vector Window 16 => t[k]) h

/-- R65: a window that gave up its holdings reads no slot, since it read its current and fallback slots alone (R16). -/
theorem Video.giveUp_unread {v : Video} (ok : v.ReadersOk) (w : WindowId) (i : SlotId) :
    winHas ((v.giveUp w).slot i).readers w = false := by
  rw [Video.slot_of_slots (v.giveUp_slots w)]
  have held : winHas (v.slot i).readers w = true → (v.slot i).state ≠ .spare ∧ (v.slot i).state ≠ .empty :=
    fun reads => ok.read i fun empty => by simp [empty] at reads
  by_cases current : (v.window w).current = some i
  · have other : (v.window w).fallback ≠ some i := fun fallback => (ok.fallback w i fallback).1 current
    rw [Video.releaseOpt_slot_ne _ w other, current]
    exact Video.release_unread held
  · have kept := Video.releaseOpt_slot_ne (v.modWindow w Window.withoutHoldings) w current
    rw [Video.modWindow_slot] at kept
    by_cases fallback : (v.window w).fallback = some i
    · rw [fallback]
      exact Video.release_unread (by rwa [kept])
    · rw [Video.releaseOpt_slot_ne _ w fallback, kept, ← Bool.not_eq_true, ok.agree, not_or]
      exact ⟨current, fallback⟩

end Sys2Proof.Machine
end

section
/-! SUPPORT. What WINDOW_SET and WINDOW_CLEAR do: the window is freed and written anew (R69, R71). -/

namespace Sys2Proof.Machine

theorem Video.freeWindow_windows (v : Video) (w : WindowId) :
    (v.freeWindow w).windows = (v.modWindow w Window.withoutHoldings).windows := by
  rw [Video.freeWindow, Video.dischargeAll_windows, Video.giveUp_windows]

/-- R69, R71: a freed window reads no slot and no slot is owed to it. -/
theorem Video.freeWindow_free {v : Video} (ok : v.ReadersOk) (w : WindowId) (i : SlotId) :
    winHas ((v.freeWindow w).slot i).readers w = false ∧ winHas ((v.freeWindow w).slot i).owed w = false :=
  ⟨Video.dischargeAll_unread w (Video.giveUp_unread ok w i), (v.giveUp w).dischargeAll_unowed w i⟩

/-- R69, R71: a window freed and then written by `f`, after which the fetchers whose wait ended resume. -/
def Video.rewriteWindow (v : Video) (w : WindowId) (f : Window → Window) : Video :=
  resuming (fun v => (v.freeWindow w).modWindow w f) v

theorem Video.rewriteWindow_windows (v : Video) (w : WindowId) (f : Window → Window) :
    (v.rewriteWindow w f).windows =
      (v.setWindow w (f (v.window w).withoutHoldings)).windows := by
  have written := Video.window_of_windows (v.freeWindow_windows w) w
  rw [Video.modWindow_window_self] at written
  rw [Video.rewriteWindow, resuming_windows, Video.modWindow, written]
  simp [Video.setWindow, Video.freeWindow_windows, Video.modWindow]

theorem Video.rewriteWindow_slots (v : Video) (w : WindowId) (f : Window → Window) :
    (v.rewriteWindow w f).slots = (v.freeWindow w).slots :=
  resuming_slots _ v

/-- R69, R71: the window is what `f` makes of it without its holdings, nothing is read by it or owed to it, and the
other windows, the ingest ports and the lock units stay. -/
theorem Video.rewriteWindow_spec {v : Video} (ok : v.ReadersOk) (w : WindowId) (f : Window → Window) :
    (v.rewriteWindow w f).window w = f (v.window w).withoutHoldings ∧
    (∀ k : WindowId, k ≠ w → (v.rewriteWindow w f).window k = v.window k) ∧
    (∀ i : SlotId, winHas ((v.rewriteWindow w f).slot i).readers w = false ∧
      winHas ((v.rewriteWindow w f).slot i).owed w = false) ∧
    (v.rewriteWindow w f).ingest = v.ingest ∧ (v.rewriteWindow w f).locks = v.locks := by
  have windows := Video.window_of_windows (v.rewriteWindow_windows w f)
  refine ⟨?_, fun k hk => ?_, fun i => ?_, ?_, ?_⟩
  · rw [windows, Video.setWindow_window_self]
  · rw [windows, Video.setWindow_window_ne v (Ne.symm hk)]
  · rw [Video.slot_of_slots (v.rewriteWindow_slots w f)]
    exact Video.freeWindow_free ok w i
  · simp [Video.rewriteWindow, Video.freeWindow]
  · simp [Video.rewriteWindow, Video.freeWindow]

/-- R69: WINDOW_SET that meets no row of its refusal table. -/
theorem cmdWindowSet_natByte {s : State} {k : WindowId} (st : StreamId) {x0 y0 w h dx dy : BitVec 16}
    {hrep vrep : Byte} (guard : Byte)
    (source : x0.toNat ≤ 4095 ∧ y0.toNat ≤ 4095 ∧ 1 ≤ w.toNat ∧ 1 ≤ h.toNat ∧ x0.toNat + w.toNat ≤ 4096 ∧
      y0.toNat + h.toNat ≤ 4096)
    (factors : (hrep = 1 ∨ hrep = 2) ∧ (vrep = 1 ∨ vrep = 2))
    (timing : (s.video.port (portOf k)).timingValid = true)
    (inside : dx.toNat < (s.video.port (portOf k)).activeWidth ∧ dy.toNat < (s.video.port (portOf k)).activeLines) :
    cmdWindowSet (natByte k.val) (natByte st.val) x0 y0 w h dx dy hrep vrep guard s =
      answerOk
        (s.withVideo
          (s.video.rewriteWindow k fun x =>
            x.rebind st x0.toNat y0.toNat w.toNat h.toNat dx.toNat dy.toNat hrep.toNat vrep.toNat guard.toNat)) [] := by
  simp only [cmdWindowSet, windowOf_natByte, streamOf_natByte]
  rw [if_neg (by omega), if_neg (not_not_intro factors), if_neg (by simp [timing]), if_neg (by omega)]
  rfl

/-- R71: WINDOW_CLEAR of a window in use. -/
theorem cmdWindowClear_used {s : State} {k : WindowId} (used : (s.video.window k).state ≠ .clear) :
    cmdWindowClear (natByte k.val) s = answerOk (s.withVideo (s.video.rewriteWindow k Window.takeOut)) [] := by
  rw [cmdWindowClear, windowOf_natByte]
  exact if_neg used

/-- R71: WINDOW_CLEAR of a CLEAR window. -/
theorem cmdWindowClear_clear {s : State} {k : WindowId} (clear : (s.video.window k).state = .clear) :
    cmdWindowClear (natByte k.val) s = answerOk (s.withVideo s.video) [] := by
  rw [cmdWindowClear, windowOf_natByte]
  exact if_pos clear

end Sys2Proof.Machine
end

section
/-! The statements about windows (Chapter 3): WINDOW_SET and WINDOW_CLEAR. -/

namespace Sys2Proof.Machine

/-- Settles O36: both commands free the window and write it anew, and a CLEAR window is not freed. -/
theorem windowSetAndClear : Obligations.WindowSetAndClear := by
  intro s tag w free ok
  refine ⟨fun st x0 y0 width height dx dy hrep vrep guard hx hy hw hh hxw hyh hhrep hvrep timing hdx hdy => ?_,
    fun used => ?_, fun clear => ?_⟩
  · have taken :
        s.command tag
          (.windowSet (natByte w.val) (natByte st.val) x0 y0 width height dx dy hrep vrep guard) = _ :=
      State.command_answerOk free tag _ (by simp [HostCmd.payload, bytes16, Config.maxPayload])
        (cmdWindowSet_natByte st guard ⟨hx, hy, hw, hh, hxw, hyh⟩ ⟨hhrep, hvrep⟩ timing ⟨hdx, hdy⟩)
    exact ⟨_, congrArg Host.Outcome.next taken, Video.rewriteWindow_spec ok w _⟩
  · have taken : s.command tag (.windowClear (natByte w.val)) = _ :=
      State.command_answerOk free tag _ (by simp [HostCmd.payload, Config.maxPayload]) (cmdWindowClear_used used)
    exact ⟨_, congrArg Host.Outcome.next taken, Video.rewriteWindow_spec ok w _⟩
  · have taken : s.command tag (.windowClear (natByte w.val)) = _ :=
      State.command_answerOk free tag _ (by simp [HostCmd.payload, Config.maxPayload]) (cmdWindowClear_clear clear)
    exact congrArg Host.Outcome.next taken

end Sys2Proof.Machine
end

section
/-! SUPPORT. What LOCK_SET and LOCK_CLEAR do: one lock unit and the next total of its port are written (R133, R134). -/

namespace Sys2Proof.Machine

theorem Port.nominalNext_of_off {pt : Port} (off : pt.on = false) : pt.nominalNext = pt := by
  simp [Port.nominalNext, off]

theorem Port.admitsDelta_iff (pt : Port) (d : Nat) :
    pt.admitsDelta d = true ↔ pt.topBlank + pt.activeLines + 1 + d ≤ pt.totalLines ∧ pt.totalLines + d ≤ 8191 := by
  simp [Port.admitsDelta]

/-- R133: the unit of an ON port starts acquisition, and that of an OFF port waits UNLOCKED. -/
def LockUnit.started (u : LockUnit) (on : Bool) : LockUnit :=
  if on then u.acquire else { u with state := .unlocked }

theorem LockUnit.started_configure (u : LockUnit) (on : Bool) (st : StreamId) (n w d : Nat) :
    (u.configure st n w d).started on =
      { u with
        configured := true, refStream := st, interval := n, window := w, delta := d
        state := if on then .acquiring else .unlocked
        countdown := if on then 1 else u.countdown
        samples := if on then 0 else u.samples } := by
  cases on <;> rfl

/-- R133: an OFF port has no next total to set back, so one equation covers both cases. -/
theorem Video.setLockConfig_eq (v : Video) (p : PortId) (st : StreamId) (n w d : Nat) :
    v.setLockConfig p st n w d =
      (v.setLock p (((v.lock p).configure st n w d).started (v.port p).on)).setPort p (v.port p).nominalNext := by
  cases on : (v.port p).on with
  | true => simp [Video.setLockConfig, Video.modLock, Video.modPort, LockUnit.started, on]
  | false =>
    have kept (u : LockUnit) : (v.setLock p u).setPort p (v.port p) = v.setLock p u :=
      (v.setLock p u).setPort_self p
    simp [Video.setLockConfig, Video.modLock, LockUnit.started, on, Port.nominalNext_of_off, kept]

/-- R133: LOCK_SET that meets no row of its refusal table. -/
theorem cmdLockSet_natByte {s : State} {p : PortId} (st : StreamId) {n d : Byte} (w : Byte)
    (ranges : 1 ≤ n.toNat ∧ n.toNat ≤ 16 ∧ 1 ≤ d.toNat ∧ d.toNat ≤ 15)
    (timing : (s.video.port p).timingValid = true) (admits : (s.video.port p).admitsDelta d.toNat = true) :
    cmdLockSet (natByte p.val) (natByte st.val) n w d s =
      answerOk (s.withVideo (s.video.setLockConfig p st n.toNat w.toNat d.toNat)) [] := by
  simp only [cmdLockSet, portNumber_natByte, streamOf_natByte]
  rw [if_neg (not_not_intro ranges), if_neg (by simp [timing]), if_neg (by simp [admits])]
  rfl

/-- R134: LOCK_CLEAR has no refusal of a port that exists. -/
theorem cmdLockClear_natByte (s : State) (p : PortId) :
    cmdLockClear (natByte p.val) s =
      answerOk
        (s.withVideo
          ((s.video.setLock p { (s.video.lock p).clearConfig with state := .unlocked }).setPort p
            (s.video.port p).nominalNext)) [] := by
  rw [cmdLockClear, portNumber_natByte]
  rfl

end Sys2Proof.Machine
end

section
/-! The statement about the lock commands (Chapter 7): LOCK_SET and LOCK_CLEAR. -/

namespace Sys2Proof.Machine

/-- Settles O52: neither command is refused, and each writes the unit and the port's next total as its rule says. -/
theorem lockCommands : Obligations.LockCommands := by
  intro s tag p free
  refine ⟨fun st n w d hn hn' hd hd' timing short long => ?_, ?_⟩
  · have admits := (Port.admitsDelta_iff _ _).mpr ⟨short, long⟩
    have taken : s.command tag (.lockSet (natByte p.val) (natByte st.val) n w d) = _ :=
      State.command_answerOk free tag _ (by simp [HostCmd.payload, Config.maxPayload])
        (cmdLockSet_natByte st w ⟨hn, hn', hd, hd'⟩ timing admits)
    rw [Video.setLockConfig_eq, LockUnit.started_configure] at taken
    exact congrArg Host.Outcome.next taken
  · have taken : s.command tag (.lockClear (natByte p.val)) = _ :=
      State.command_answerOk free tag _ (by simp [HostCmd.payload, Config.maxPayload]) (cmdLockClear_natByte s p)
    exact congrArg Host.Outcome.next taken

end Sys2Proof.Machine
end

section
/-! SUPPORT. The attention table (Chapter 10): what a change of one entry does to the entries and to the ATTN line, and
what ATTN_READ, ATTN_CLEAR and ATTN_MASK come to when they are not refused. -/

namespace Sys2Proof.Machine

/-! ## One entry changed (R162, R164) -/

/-- R164: the derived line. -/
theorem attnAsserted_iff (es : Vector AttnEntry 29) :
    attnAsserted es = true ↔ ∃ e : EntryId, es[e].pending &&& es[e].enabled ≠ 0 := by
  simp only [attnAsserted, List.any_eq_true, Vector.mem_toList_iff, Vector.mem_iff_getElem, bne_iff_ne]
  constructor
  · rintro ⟨x, ⟨n, hn, rfl⟩, hx⟩
    exact ⟨⟨n, hn⟩, hx⟩
  · rintro ⟨e, he⟩
    exact ⟨es[e], ⟨e.val, e.isLt, rfl⟩, he⟩

@[simp] theorem Attention.modEntry_entry_self (a : Attention) (e : EntryId) (f : AttnEntry → AttnEntry) :
    (a.modEntry e f).entry e = f (a.entry e) := by
  simp [Attention.modEntry, Attention.entry]

theorem Attention.modEntry_entry_ne (a : Attention) {e g : EntryId} (h : g ≠ e) (f : AttnEntry → AttnEntry) :
    (a.modEntry e f).entry g = a.entry g :=
  Vector.getElem_set_ne e.isLt g.isLt fun same => h (Fin.ext same.symm)

/-- R164: whatever the line was before the change. -/
theorem Attention.modEntry_line_iff (a : Attention) (e : EntryId) (f : AttnEntry → AttnEntry) :
    (a.modEntry e f).line = true ↔
      ∃ g : EntryId, ((a.modEntry e f).entry g).pending &&& ((a.modEntry e f).entry g).enabled ≠ 0 :=
  attnAsserted_iff _

/-- R164, R165, R167: what a change of one entry comes to. -/
theorem Attention.modEntry_spec (a : Attention) (e : EntryId) (f : AttnEntry → AttnEntry) :
    (a.modEntry e f).entry e = f (a.entry e) ∧
    (∀ g : EntryId, g ≠ e → (a.modEntry e f).entry g = a.entry g) ∧
    ((a.modEntry e f).line = true ↔
      ∃ g : EntryId, ((a.modEntry e f).entry g).pending &&& ((a.modEntry e f).entry g).enabled ≠ 0) :=
  ⟨a.modEntry_entry_self e f, fun _ hg => a.modEntry_entry_ne hg f, a.modEntry_line_iff e f⟩

/-- R162, R183: the legal causes of an entry, as the refusal tables of section 10.4 bound them. -/
theorem legal_causes_of_lt {e : EntryId} {causes : CauseSet}
    (h : if e.val < 8 then causes.toNat < 32 else causes.toNat < 8) : causes &&& ~~~ kindCauses e = 0 := by
  have stream : ∀ c : CauseSet, c.toNat < 32 → c &&& ~~~ 0x1F = 0 := by decide
  have other : ∀ c : CauseSet, c.toNat < 8 → c &&& ~~~ 0x07 = 0 := by decide
  unfold kindCauses
  split at h
  · next isStream => rw [if_pos isStream]; exact stream _ h
  · next notStream => rw [if_neg notStream]; exact other _ h

/-! ## ATTN_READ, ATTN_CLEAR and ATTN_MASK (section 10.4) -/

/-- Listing what a filter keeps is listing everything, with nothing for what it drops. -/
theorem flatMap_filter_eq {α β : Type} (keep : α → Bool) (g : α → List β) :
    ∀ l : List α, (l.filter keep).flatMap g = l.flatMap fun x => if keep x then g x else []
  | [] => rfl
  | x :: l => by
    cases hx : keep x with
    | true => simp [hx, flatMap_filter_eq keep g l]
    | false => simp [hx, flatMap_filter_eq keep g l]

/-- R166, section 11.9: only the entries with a pending cause are listed. -/
theorem Attention.elements_eq (a : Attention) :
    a.elements =
      ((List.finRange 29).filter fun e => (a.entry e).pending != 0).flatMap fun e =>
        [natByte e.val, (a.entry e).pending, (a.entry e).enabled] := by
  rw [flatMap_filter_eq, Attention.elements]
  simp only [bne_iff_ne, ite_not]

/-- R167: ATTN_CLEAR with causes of the entry's kind. -/
theorem cmdAttnClear_natByte (s : State) {e : EntryId} {causes : Byte} (legal : causes &&& ~~~ kindCauses e = 0) :
    cmdAttnClear (natByte e.val) causes s =
      answerOk
        (s.withVideo (s.video.modAttn fun a =>
          a.modEntry e fun x => { x with pending := x.pending &&& ~~~ causes })) [] := by
  rw [cmdAttnClear, entryOf_natByte]
  exact if_neg (not_not_intro legal)

/-- R165: ATTN_MASK with causes of the entry's kind. -/
theorem cmdAttnMask_natByte (s : State) {e : EntryId} {causes : Byte} (legal : causes &&& ~~~ kindCauses e = 0) :
    cmdAttnMask (natByte e.val) causes s =
      answerOk (s.withVideo (s.video.modAttn fun a => a.modEntry e fun x => { x with enabled := causes })) [] := by
  rw [cmdAttnMask, entryOf_natByte]
  exact if_neg (not_not_intro legal)

end Sys2Proof.Machine
end

section
/-! SUPPORT. What every operation of the picture blocks keeps of the attention table: the table changes only by raises
of causes of an entry's kind (R162, R163), so that an entry never holds another cause and the line follows (R164). The
operations stand in the order of the model. -/

namespace Sys2Proof.Machine

/-! ## The table itself (R162 to R169) -/

/-- R164: an entry changed to causes of its kind. -/
theorem Attention.Ok.modEntry {a : Attention} {e : EntryId} {f : AttnEntry → AttnEntry} (h : a.Ok)
    (pending : (f (a.entry e)).pending &&& ~~~ kindCauses e = 0)
    (enabled : (f (a.entry e)).enabled &&& ~~~ kindCauses e = 0) : (a.modEntry e f).Ok := by
  obtain ⟨self, others, line⟩ := a.modEntry_spec e f
  refine ⟨fun g => ?_, fun g => ?_, line⟩
  · by_cases hg : g = e
    · subst hg; rw [self]; exact pending
    · rw [others g hg]; exact h.pending g
  · by_cases hg : g = e
    · subst hg; rw [self]; exact enabled
    · rw [others g hg]; exact h.enabled g

/-- R163: a cause of the entry's kind raised. -/
theorem Attention.Ok.raise {v : Video} {e : EntryId} {cause : CauseSet} (legal : cause &&& ~~~ kindCauses e = 0)
    (h : v.attn.Ok) : (v.raise e cause).attn.Ok :=
  Attention.Ok.modEntry (f := fun x => { x with pending := x.pending ||| cause }) h
    (by rw [BitVec.and_comm, BitVec.and_or_distrib_left, BitVec.and_comm, h.pending e, BitVec.and_comm, legal]; rfl)
    (h.enabled e)

theorem Attention.Ok.raiseStream {v : Video} {st : StreamId} {c : StreamCause} (h : v.attn.Ok) :
    (v.raiseStream st c).attn.Ok := by
  have kind : kindCauses (streamEntry st) = 0x1F := if_pos st.isLt
  exact .raise (by rw [kind]; cases c <;> rfl) h

theorem Attention.Ok.raiseWindow {v : Video} {w : WindowId} {c : WindowCause} (h : v.attn.Ok) :
    (v.raiseWindow w c).attn.Ok := by
  have kind : kindCauses (windowEntry w) = 0x07 := if_neg (Nat.not_lt.mpr (Nat.le_add_right 8 w.val))
  exact .raise (by rw [kind]; cases c <;> rfl) h

theorem Attention.Ok.raisePort {v : Video} {p : PortId} {c : PortCause} (h : v.attn.Ok) :
    (v.raisePort p c).attn.Ok := by
  have kind : kindCauses (portEntry p) = 0x07 := if_neg (by simp only [portEntry]; omega)
  exact .raise (by rw [kind]; cases c <;> rfl) h

theorem Attention.Ok.raiseDevice {v : Video} {c : DeviceCause} (h : v.attn.Ok) : (v.raiseDevice c).attn.Ok :=
  .raise (by cases c <;> rfl) h

/-- R169: after a reset nothing is pending and nothing is enabled. -/
theorem Attention.Ok.reset : Attention.reset.Ok := by
  have none (e : EntryId) : Attention.reset.entry e = { pending := 0, enabled := 0 } := by
    simp [Attention.reset, Attention.entry]
  refine ⟨fun e => ?_, fun e => ?_, ?_⟩
  · rw [none]; exact BitVec.zero_and
  · rw [none]; exact BitVec.zero_and
  · simp only [none]
    exact iff_of_false Bool.false_ne_true fun ⟨_, set⟩ => set rfl

/-! ## Ways to put operations together -/

/-- An operation that does not touch the table. -/
theorem Attention.Ok.of_eq {u v : Video} (same : u.attn = v.attn) (h : v.attn.Ok) : u.attn.Ok := same ▸ h

theorem Attention.Ok.modSlot {v : Video} {i : SlotId} {f : Slot → Slot} (h : v.attn.Ok) : (v.modSlot i f).attn.Ok := h
theorem Attention.Ok.modStream {v : Video} {i : StreamId} {f : Stream → Stream} (h : v.attn.Ok) :
    (v.modStream i f).attn.Ok := h
theorem Attention.Ok.setStream {v : Video} {i : StreamId} {x : Stream} (h : v.attn.Ok) : (v.setStream i x).attn.Ok := h
theorem Attention.Ok.modWindow {v : Video} {i : WindowId} {f : Window → Window} (h : v.attn.Ok) :
    (v.modWindow i f).attn.Ok := h
theorem Attention.Ok.modInput {v : Video} {i : PortId} {f : Ingest → Ingest} (h : v.attn.Ok) :
    (v.modInput i f).attn.Ok := h
theorem Attention.Ok.modPort {v : Video} {i : PortId} {f : Port → Port} (h : v.attn.Ok) : (v.modPort i f).attn.Ok := h
theorem Attention.Ok.modLock {v : Video} {i : PortId} {f : LockUnit → LockUnit} (h : v.attn.Ok) :
    (v.modLock i f).attn.Ok := h

theorem Attention.Ok.ite {c : Prop} [Decidable c] {u v : Video} (hu : u.attn.Ok) (hv : v.attn.Ok) :
    (if c then u else v).attn.Ok := by
  split
  · exact hu
  · exact hv

theorem Attention.Ok.foldl {α : Type} {f : Video → α → Video} (keeps : ∀ v a, v.attn.Ok → (f v a).attn.Ok)
    {l : List α} {v : Video} (h : v.attn.Ok) : (l.foldl f v).attn.Ok := by
  induction l generalizing v with
  | nil => exact h
  | cons a l ih => exact ih (keeps v a h)

theorem Attention.Ok.resuming {f : Video → Video} {v : Video} (h : (f v).attn.Ok) :
    (Machine.resuming f v).attn.Ok := .of_eq (resuming_attn f v) h

/-! ## Departure and the claims of windows (R9, R16, R17, R19) -/

theorem Attention.Ok.depart {v : Video} {i : SlotId} (h : v.attn.Ok) : (v.depart i).attn.Ok := by
  unfold Video.depart
  dsimp only
  cases (v.slot i).owner with
  | none => exact h
  | some st =>
    have left : (((if (v.slot i).neverSeen then v.modStream st Stream.countUnseen else v).modStream st fun x =>
        { x with pool := x.pool.filter (· != i) }).setSlot i { Slot.reset with base := (v.slot i).base }).attn.Ok :=
      Attention.Ok.ite (u := v.modStream st Stream.countUnseen) h h
    exact .ite (.raiseStream left) left

theorem Attention.Ok.tryDepart {v : Video} {i : SlotId} (h : v.attn.Ok) : (v.tryDepart i).attn.Ok := .ite (.depart h) h

theorem Attention.Ok.latchClaim {v : Video} {w : WindowId} {i : SlotId} (h : v.attn.Ok) : (v.latchClaim w i).attn.Ok :=
  .of_eq (Video.latchClaim_attn ..) h

theorem Attention.Ok.release {v : Video} {w : WindowId} {i : SlotId} (h : v.attn.Ok) : (v.release w i).attn.Ok := by
  unfold Video.release
  refine .ite ?_ h
  cases (v.slot i).state with
  | ready | detached => exact .tryDepart h
  | filling | completing | empty | spare => exact h

theorem Attention.Ok.releaseOpt {v : Video} {w : WindowId} {o : Option SlotId} (h : v.attn.Ok) :
    (v.releaseOpt w o).attn.Ok := by
  cases o with
  | none => exact h
  | some i => exact .release h

theorem Attention.Ok.dischargeSlot {v : Video} {w : WindowId} {i : SlotId} (h : v.attn.Ok) :
    (v.dischargeSlot w i).attn.Ok := .ite (.tryDepart h) h

theorem Attention.Ok.dischargeAll {v : Video} {w : WindowId} (h : v.attn.Ok) : (v.dischargeAll w).attn.Ok :=
  .foldl (fun _ _ => .dischargeSlot) h

theorem Attention.Ok.dischargeUpTo {v : Video} {w : WindowId} {st : StreamId} {q : Seq} (h : v.attn.Ok) :
    (v.dischargeUpTo w st q).attn.Ok := .foldl (fun _ _ h => .ite (.dischargeSlot h) h) h

theorem Attention.Ok.dischargeStream {v : Video} {st : StreamId} (h : v.attn.Ok) : (v.dischargeStream st).attn.Ok :=
  .foldl (fun _ _ h => .ite (.tryDepart (.modSlot h)) h) h

/-! ## The forced fallback (R81 to R83) -/

theorem Attention.Ok.endWaitOf {v : Video} {w : WindowId} (h : v.attn.Ok) : (v.endWaitOf w).attn.Ok :=
  .of_eq (Video.endWaitOf_attn ..) h

theorem Attention.Ok.switchToFallback {v : Video} {w : WindowId} (h : v.attn.Ok) :
    (v.switchToFallback w).attn.Ok := by
  unfold Video.switchToFallback
  refine .raiseWindow (.modWindow ?_)
  cases (v.window w).fallback with
  | none => exact .modWindow h
  | some f =>
    dsimp only
    split
    · exact .dischargeUpTo (.modWindow h)
    · exact .modWindow h

theorem Attention.Ok.forcedFallback {v : Video} {w : WindowId} (h : v.attn.Ok) : (v.forcedFallback w).attn.Ok := by
  refine .switchToFallback (.endWaitOf ?_)
  cases (v.window w).fallback with
  | none => exact h
  | some f => exact h

/-! ## Claims of producers and of streams (R10 to R15, R20 to R22) -/

theorem Attention.Ok.take {v : Video} {st : StreamId} (h : v.attn.Ok) : (v.take st).1.attn.Ok := by
  unfold Video.take
  split
  · exact h
  · cases v.takeTarget st with
    | none => exact h
    | some i => exact .ite (u := v.modStream st Stream.countUnseen) h h

theorem Attention.Ok.commit {v : Video} {i : SlotId} {q : Seq} {n : Nat} (h : v.attn.Ok) : (v.commit i q n).attn.Ok :=
  .of_eq (Video.commit_attn ..) h

theorem Attention.Ok.markDamage {v : Video} {i : SlotId} {q : Seq} {k : DamageKind} (h : v.attn.Ok) :
    (v.markDamage i q k).attn.Ok := .of_eq (Video.markDamage_attn ..) h

theorem Attention.Ok.endClaim {v : Video} {i : SlotId} {q : Seq} (h : v.attn.Ok) : (v.endClaim i q).attn.Ok :=
  .of_eq (Video.endClaim_attn ..) h

theorem Attention.Ok.emptySlot {v : Video} {i : SlotId} (h : v.attn.Ok) : (v.emptySlot i).attn.Ok := .tryDepart h

theorem Attention.Ok.forceOutReaders {v : Video} {i : SlotId} (h : v.attn.Ok) : (v.forceOutReaders i).attn.Ok :=
  .foldl (fun _ _ => .forcedFallback) h

theorem Attention.Ok.abandon {v : Video} {i : SlotId} (h : v.attn.Ok) : (v.abandon i).attn.Ok := by
  unfold Video.abandon
  cases (v.slot i).owner with
  | none => exact h
  | some st => exact .ite (.emptySlot (.forceOutReaders h)) h

theorem Attention.Ok.abandonClaim {v : Video} {i : SlotId} {q : Seq} (h : v.attn.Ok) : (v.abandonClaim i q).attn.Ok :=
  .ite (.abandon h) h

theorem Attention.Ok.discardFrame {v : Video} {st : StreamId} {i : SlotId} (h : v.attn.Ok) :
    (v.discardFrame st i).attn.Ok := .emptySlot (.forceOutReaders (.ite h h))

theorem Attention.Ok.publishFrame {v : Video} {st : StreamId} {i : SlotId} (h : v.attn.Ok) :
    (v.publishFrame st i).attn.Ok := by
  unfold Video.publishFrame
  extract_lets previous owed q damaged ready counted raised ended
  have ok : ended.attn.Ok := .of_eq (Video.endWaitsOn_attn ..) (.ite (.raiseStream h) h)
  cases previous with
  | none => exact ok
  | some j => exact .tryDepart ok

theorem Attention.Ok.complete {v : Video} {i : SlotId} {q : Seq} (h : v.attn.Ok) : (v.complete i q).attn.Ok := by
  unfold Video.complete
  cases (v.slot i).owner with
  | none => exact h
  | some st => exact .ite (.ite (.discardFrame h) (.publishFrame h)) h

theorem Attention.Ok.join {v : Video} {st : StreamId} {i : SlotId} (h : v.attn.Ok) : (v.join st i).attn.Ok :=
  .of_eq (Video.join_attn ..) h

theorem Attention.Ok.leave {v : Video} {st : StreamId} {i : SlotId} (h : v.attn.Ok) : (v.leave st i).1.attn.Ok := by
  unfold Video.leave
  dsimp only
  split
  · exact h
  · split
    · exact .depart h
    · exact h

theorem Attention.Ok.detachSlot {v : Video} {i : SlotId} (h : v.attn.Ok) : (v.detachSlot i).attn.Ok :=
  .ite (.ite (.depart h) h) h

theorem Attention.Ok.detach {v : Video} {st : StreamId} (h : v.attn.Ok) : (v.detach st).attn.Ok :=
  .foldl (fun _ _ => .detachSlot) h

/-! ## Windows (R54 to R66) -/

theorem Attention.Ok.giveUp {v : Video} {w : WindowId} (h : v.attn.Ok) : (v.giveUp w).attn.Ok :=
  .endWaitOf (.releaseOpt (.releaseOpt h))

theorem Attention.Ok.freeWindow {v : Video} {w : WindowId} (h : v.attn.Ok) : (v.freeWindow w).attn.Ok :=
  .dischargeAll (.giveUp h)

theorem Attention.Ok.latch {v : Video} {w : WindowId} {st : StreamId} {i : SlotId} (h : v.attn.Ok) :
    (v.latch w st i).attn.Ok := by
  unfold Video.latch
  exact .modWindow (.dischargeUpTo (.modWindow (.latchClaim (.releaseOpt h))))

theorem Attention.Ok.startChase {v : Video} {w : WindowId} {st : StreamId} {f : SlotId} (h : v.attn.Ok) :
    (v.startChase w st f).attn.Ok := by
  unfold Video.startChase
  extract_lets old fb released claimed aside
  have claimedOk : claimed.attn.Ok := .latchClaim (.ite h (.releaseOpt h))
  have asideOk : aside.attn.Ok := by
    unfold aside
    cases fb with
    | none => exact claimedOk
    | some b => exact .ite claimedOk (.latchClaim claimedOk)
  exact .modWindow asideOk

theorem Attention.Ok.noCandidate {v : Video} {w : WindowId} {st : StreamId} (h : v.attn.Ok) :
    (v.noCandidate w st).attn.Ok := by
  unfold Video.noCandidate
  cases (v.window w).current with
  | some c => exact h
  | none =>
    refine .ite h ?_
    cases v.readyWith st (v.window w).readySeq with
    | none => exact h
    | some i => exact .latch h

theorem Attention.Ok.pick {v : Video} {w : WindowId} {st : StreamId} (h : v.attn.Ok) : (v.pick w st).attn.Ok := by
  unfold Video.pick
  cases (v.stream st).delivery with
  | newest =>
    cases v.chaseTarget w st with
    | some f => exact .startChase h
    | none =>
      cases v.newestCandidate w st with
      | some i => exact .latch h
      | none => exact .noCandidate h
  | ordered =>
    cases v.orderedCandidate w st with
    | some i => exact .latch h
    | none => exact .noCandidate h

theorem Attention.Ok.holdAndPick {v : Video} {w : WindowId} {st : StreamId} (h : v.attn.Ok) :
    (v.holdAndPick w st).attn.Ok := by
  unfold Video.holdAndPick
  cases (v.window w).current with
  | none => exact .pick h
  | some c => exact .ite h (.pick h)

theorem Attention.Ok.closeOut {v : Video} {w : WindowId} {st : StreamId} (h : v.attn.Ok) :
    (v.closeOut w st).attn.Ok := by
  unfold Video.closeOut
  refine .ite ?_ h
  extract_lets fb released
  have ok : released.attn.Ok := .releaseOpt h
  cases (released.window w).current with
  | none => exact ok
  | some c => exact .ite (.dischargeUpTo ok) ok

theorem Attention.Ok.enterMismatch {v : Video} {w : WindowId} (h : v.attn.Ok) : (v.enterMismatch w).attn.Ok :=
  .raiseWindow (.freeWindow h)

theorem Attention.Ok.windowFrameStart {v : Video} {w : WindowId} (h : v.attn.Ok) :
    (v.windowFrameStart w).attn.Ok := by
  unfold Video.windowFrameStart
  refine .ite h ?_
  cases (v.window w).stream with
  | none => exact h
  | some st =>
    exact .ite (.ite (.ite h (.enterMismatch h)) (.holdAndPick (.closeOut (.ite h h)))) (.giveUp h)

theorem Attention.Ok.windowSteps {v : Video} {p : PortId} (h : v.attn.Ok) : (v.windowSteps p).attn.Ok :=
  .foldl (fun _ _ => .windowFrameStart) h

/-! ## Scan-out ports (R109 to R119, R122) -/

theorem Attention.Ok.pump {v : Video} {p : PortId} (h : v.attn.Ok) : (v.pump p).attn.Ok := .of_eq (v.pump_attn p) h

theorem Attention.Ok.reportUnderrun {v : Video} {w : WindowId} (h : v.attn.Ok) : (v.reportUnderrun w).attn.Ok :=
  .raiseWindow h

theorem Attention.Ok.reportUnderruns {v : Video} {p : PortId} {line : List PixelPaint} (h : v.attn.Ok) :
    (v.reportUnderruns p line).attn.Ok := .foldl (fun _ _ h => .ite (.reportUnderrun h) h) h

theorem Attention.Ok.chaseFault {v : Video} {p : PortId} {l : Layer} (h : v.attn.Ok) : (v.chaseFault p l).attn.Ok :=
  .releaseOpt (.switchToFallback h)

theorem Attention.Ok.emissionStart {v : Video} {p : PortId} {y : Nat} (h : v.attn.Ok) :
    (v.emissionStart p y).attn.Ok := by
  unfold Video.emissionStart
  extract_lets dropped line reported answered
  have reportedOk : reported.attn.Ok := .reportUnderruns h
  have answeredOk : answered.attn.Ok := by
    unfold answered
    cases (reported.port p).wait with
    | none => exact reportedOk
    | some wt => exact .ite (.chaseFault reportedOk) reportedOk
  exact .pump (.modPort answeredOk)

theorem Attention.Ok.frameStart {v : Video} {p : PortId} (h : v.attn.Ok) : (v.frameStart p).attn.Ok := by
  unfold Video.frameStart
  exact .modLock (.pump (.modPort (.windowSteps (.modPort h))))

theorem Attention.Ok.cut {v : Video} {p : PortId} (h : v.attn.Ok) : (v.cut p).attn.Ok := .frameStart h

theorem Attention.Ok.portLine {v : Video} {p : PortId} (h : v.attn.Ok) : (v.portLine p).attn.Ok := by
  unfold Video.portLine
  extract_lets line moved pt freed
  have ok : freed.attn.Ok := .ite h h
  exact .ite (.emissionStart ok) ok

theorem Attention.Ok.lineStart {v : Video} {p : PortId} (h : v.attn.Ok) : (v.lineStart p).attn.Ok :=
  .ite (.frameStart h) (.portLine h)

theorem Attention.Ok.windowOff {v : Video} {w : WindowId} (h : v.attn.Ok) : (v.windowOff w).attn.Ok :=
  .modWindow (.freeWindow h)

theorem Attention.Ok.turnOff {v : Video} {p : PortId} (h : v.attn.Ok) : (v.turnOff p).attn.Ok := by
  unfold Video.turnOff
  exact .modPort (.modPort (.modLock (.foldl (fun _ _ => .windowOff) (.modPort h))))

theorem Attention.Ok.recheckLock {v : Video} {p : PortId} (h : v.attn.Ok) : (v.recheckLock p).attn.Ok := .ite h h

theorem Attention.Ok.idleOutputs {v : Video} (h : v.attn.Ok) : v.idleOutputs.attn.Ok := .foldl (fun _ _ => .modPort) h

/-! ## Lock units (R128 to R133) -/

theorem Attention.Ok.loseReference {v : Video} {st : StreamId} (h : v.attn.Ok) : (v.loseReference st).attn.Ok :=
  .of_eq (Video.loseReference_attn ..) h

theorem Attention.Ok.sampleAcquiring {v : Video} {p : PortId} {e : Int} (h : v.attn.Ok) :
    (v.sampleAcquiring p e).attn.Ok := .ite (.raisePort h) (.ite (.raisePort (.cut h)) (.cut h))

theorem Attention.Ok.sampleLocked {v : Video} {p : PortId} {e : Int} (h : v.attn.Ok) :
    (v.sampleLocked p e).attn.Ok := by
  have lost : ((v.modLock p LockUnit.acquire).raisePort p .lockLost).attn.Ok := .raisePort h
  exact .ite lost (.ite h (.ite h h))

theorem Attention.Ok.sample {v : Video} {p : PortId} (h : v.attn.Ok) : (v.sample p).attn.Ok := by
  unfold Video.sample
  cases (v.lock p).state with
  | unlocked => exact h
  | locked => exact .sampleLocked h
  | acquiring | holdover => exact .sampleAcquiring h

theorem Attention.Ok.offerTo {v : Video} {st : StreamId} {p : PortId} (h : v.attn.Ok) : (v.offerTo st p).attn.Ok :=
  .ite (.ite (.sample h) h) h

theorem Attention.Ok.offerReference {v : Video} {st : StreamId} (h : v.attn.Ok) : (v.offerReference st).attn.Ok :=
  .foldl (fun _ _ => .offerTo) h

theorem Attention.Ok.setLockConfig {v : Video} {p : PortId} {st : StreamId} {n w d : Nat} (h : v.attn.Ok) :
    (v.setLockConfig p st n w d).attn.Ok := .ite h h

/-! ## Ingest ports (R90 to R103) -/

theorem Attention.Ok.advanceCommit {v : Video} {p : PortId} {i : SlotId} {q : Seq} (h : v.attn.Ok) :
    (v.advanceCommit p i q).attn.Ok := by
  unfold Video.advanceCommit
  cases (v.input p).frame? i q with
  | none => exact h
  | some e => exact .ite (.commit h) h

theorem Attention.Ok.completeFrames {v : Video} {p : PortId} {flying : List Transfer} (h : v.attn.Ok) :
    (v.completeFrames p flying).attn.Ok := by
  have run : ∀ (n : Nat) {v : Video}, v.attn.Ok → (Video.completeFor p flying n v).attn.Ok := by
    intro n
    induction n with
    | zero => exact id
    | succ n ih =>
      intro v h
      unfold Video.completeFor
      cases (v.input p).frames with
      | nil => exact h
      | cons e rest => exact .ite (ih (.complete (q := e.seq) h)) h
  exact run _ h

theorem Attention.Ok.dropBurst {v : Video} {p : PortId} {i : SlotId} {q : Seq} {k : DamageKind} (h : v.attn.Ok) :
    (v.dropBurst p i q k).attn.Ok := Attention.Ok.markDamage (q := q) h

theorem Attention.Ok.burstReady {v : Video} {p : PortId} {st : StreamId} {b : BurstEntry} (h : v.attn.Ok) :
    (v.burstReady p st b).attn.Ok := .ite (.dropBurst h) (.ite (.dropBurst h) (.ite (.dropBurst h) h))

theorem Attention.Ok.formBurst {v : Video} {p : PortId} {st : StreamId} {i : SlotId} {q : Seq}
    {bytes rest : List Byte} (h : v.attn.Ok) : (v.formBurst p st i q bytes rest).attn.Ok := .burstReady h

theorem Attention.Ok.endLine {v : Video} {p : PortId} {st : StreamId} {i : SlotId} {q : Seq} (h : v.attn.Ok) :
    (v.endLine p st i q).attn.Ok := by
  unfold Video.endLine
  extract_lets g formed x marked counted ended
  have formedOk : formed.attn.Ok := .ite h (.formBurst h)
  have countedOk : counted.attn.Ok := .ite (.modInput (.ite formedOk (.markDamage formedOk))) (.markDamage formedOk)
  exact .ite (.advanceCommit (.modInput countedOk)) h

theorem Attention.Ok.takePixel {v : Video} {p : PortId} {st : StreamId} {i : SlotId} {q : Seq} {data : BitVec 32}
    (h : v.attn.Ok) : (v.takePixel p st i q data).attn.Ok := .ite h (.formBurst h)

theorem Attention.Ok.whileCapturing {v : Video} {p : PortId} {f : StreamId → SlotId → Seq → Video}
    (keeps : ∀ {st i q}, (f st i q).attn.Ok) (h : v.attn.Ok) : (v.whileCapturing p f).attn.Ok := by
  unfold Video.whileCapturing
  split
  · exact keeps
  · exact h

theorem Attention.Ok.inputLineStart {v : Video} {p : PortId} (h : v.attn.Ok) : (v.inputLineStart p).attn.Ok :=
  .whileCapturing (.endLine h) h

theorem Attention.Ok.inputLineEnd {v : Video} {p : PortId} (h : v.attn.Ok) : (v.inputLineEnd p).attn.Ok :=
  .whileCapturing (.endLine h) h

theorem Attention.Ok.inputPixel {v : Video} {p : PortId} {data : BitVec 32} (h : v.attn.Ok) :
    (v.inputPixel p data).attn.Ok := .whileCapturing (.ite (.takePixel h) h) h

theorem Attention.Ok.closeFrame {v : Video} {p : PortId} {flying : List Transfer} {st : StreamId} {i : SlotId}
    {q : Seq} (h : v.attn.Ok) : (v.closeFrame p flying st i q).attn.Ok := by
  unfold Video.closeFrame
  extract_lets lineEnded marked claimed
  have lineOk : lineEnded.attn.Ok := .endLine h
  have claimedOk : claimed.attn.Ok := .endClaim (.ite (.markDamage lineOk) lineOk)
  exact .completeFrames (.modInput claimedOk)

theorem Attention.Ok.endOfStop {v : Video} {st : StreamId} (h : v.attn.Ok) : (v.endOfStop st).attn.Ok :=
  .of_eq (Video.endOfStop_attn ..) h

theorem Attention.Ok.endStopAt {v : Video} {p : PortId} {st : StreamId} (h : v.attn.Ok) :
    (v.endStopAt p st).attn.Ok := .endOfStop (.modInput h)

theorem Attention.Ok.inputFrameEnd {v : Video} {p : PortId} {flying : List Transfer} (h : v.attn.Ok) :
    (v.inputFrameEnd p flying).attn.Ok := by
  refine .whileCapturing ?_ h
  exact .ite (.endStopAt (.closeFrame h)) (.modInput (.closeFrame h))

theorem Attention.Ok.newFrame {v : Video} {p : PortId} {st : StreamId} (h : v.attn.Ok) :
    (v.newFrame p st).attn.Ok := by
  have took : ((v.modInput p fun g => { g with lossTimer := some 0 }).take st).1.attn.Ok := .take h
  unfold Video.newFrame
  dsimp only
  split
  · next v' i q same => rw [same] at took; exact took
  · next v' same => rw [same] at took; exact Attention.Ok.raiseStream (st := st) (c := .overflow) took
  · next v' same => rw [same] at took; exact took

theorem Attention.Ok.offerIfRunning {v : Video} {running : Bool} {st : StreamId} (h : v.attn.Ok) :
    (v.offerIfRunning running st).attn.Ok := .ite (.offerReference h) h

theorem Attention.Ok.inputFrameStart {v : Video} {p : PortId} {flying : List Transfer} (h : v.attn.Ok) :
    (v.inputFrameStart p flying).attn.Ok := by
  unfold Video.inputFrameStart
  extract_lets g counted
  split
  · exact h
  · exact h
  · exact .offerIfRunning (.newFrame (.modInput h))
  · exact .offerIfRunning (.newFrame (.modInput h))
  · exact .offerIfRunning (.newFrame (.raiseStream (.modInput h)))
  · extract_lets running closed
    have ok : closed.attn.Ok := by
      unfold closed
      cases g.target with
      | none => exact h
      | some target => exact .closeFrame (.modInput h)
    exact .ite (.endStopAt ok) (.offerIfRunning (.newFrame ok))
  · exact h

theorem Attention.Ok.lossTimeout {v : Video} {p : PortId} (h : v.attn.Ok) : (v.lossTimeout p).attn.Ok := by
  unfold Video.lossTimeout
  extract_lets g abandoned
  split
  · extract_lets running raised lost
    have abandonedOk : abandoned.attn.Ok := by
      unfold abandoned
      split
      · exact .modInput (.abandonClaim h)
      · exact h
    have raisedOk : raised.attn.Ok := .raiseStream (.modStream abandonedOk)
    exact .ite (.endStopAt raisedOk) (.ite (.loseReference raisedOk) raisedOk)
  · exact h

theorem Attention.Ok.lossIfDue {v : Video} {p : PortId} (h : v.attn.Ok) : (v.lossIfDue p).attn.Ok :=
  .ite (.lossTimeout h) h

theorem Attention.Ok.tickInput {v : Video} {p : PortId} (h : v.attn.Ok) : (v.tickInput p).attn.Ok :=
  .lossIfDue (.ite h h)

theorem Attention.Ok.onSource {v : Video} {st : StreamId} {f : Ingest → Ingest} (h : v.attn.Ok) :
    (v.onSource st f).attn.Ok := by
  obtain ⟨gs, heq, -⟩ := v.onSource_eq st f
  rw [heq]
  exact h

theorem Attention.Ok.writeCompleted {v : Video} {p : PortId} {flying : List Transfer} {t : BurstTag} (h : v.attn.Ok) :
    (v.writeCompleted p flying t).attn.Ok := by
  unfold Video.writeCompleted
  refine .ite h ?_
  dsimp only
  split
  · exact h
  · exact .completeFrames (.advanceCommit h)

/-! ## Streams and host frames (R37 to R43, R156) -/

theorem Attention.Ok.openStream {v : Video} {st : StreamId} {x : Stream} {pool : List SlotId} (h : v.attn.Ok) :
    (v.openStream st x pool).attn.Ok :=
  .foldl (fun _ _ h => .ite (.modWindow h) h) (.onSource (.foldl (fun _ _ => .join) (.setStream h)))

theorem Attention.Ok.leaveRunning {v : Video} {st : StreamId} (h : v.attn.Ok) : (v.leaveRunning st).attn.Ok :=
  .of_eq (Video.leaveRunning_attn ..) h

theorem Attention.Ok.stopAfterFrame {v : Video} {st : StreamId} (h : v.attn.Ok) : (v.stopAfterFrame st).attn.Ok :=
  .ite (.onSource (.leaveRunning h)) (.onSource (.leaveRunning h))

theorem Attention.Ok.stopNow {v : Video} {st : StreamId} (h : v.attn.Ok) : (v.stopNow st).attn.Ok := by
  unfold Video.stopNow
  extract_lets left abandoned
  have leftOk : left.attn.Ok := .leaveRunning h
  have ok : abandoned.attn.Ok := by
    unfold abandoned
    cases left.fillingOf st with
    | none => exact leftOk
    | some i => exact .abandon leftOk
  exact .modStream (.onSource ok)

theorem Attention.Ok.abandonPool {v : Video} {st : StreamId} (h : v.attn.Ok) : (v.abandonPool st).attn.Ok :=
  .foldl (fun _ _ => .abandon) h

theorem Attention.Ok.closeStream {v : Video} {st : StreamId} (h : v.attn.Ok) : (v.closeStream st).attn.Ok := by
  unfold Video.closeStream
  exact .modStream (.detach (.dischargeStream (.abandonPool (.onSource (.leaveRunning h)))))

theorem Attention.Ok.publishHost {v : Video} {st : StreamId} {i : SlotId} (h : v.attn.Ok) :
    (v.publishHost st i).attn.Ok := by
  unfold Video.publishHost
  exact .endOfStop (.complete (.commit h))

end Sys2Proof.Machine
end

section
/-! SUPPORT. What every host command keeps of the attention table: a refusal changes nothing (R2), a command carried out
makes the operation of its rule, and RESET leaves the reset table (R150, R169). -/

namespace Sys2Proof.Machine

/-! ## Ways to answer a command (R2) -/

/-- A row of a refusal table: the command is refused, or goes on to the next row. -/
theorem Attention.Ok.row {c : Prop} [Decidable c] {s : State} {status : Status} {a : Answer} (h : s.video.attn.Ok)
    (next : a.state.video.attn.Ok) : (if c then refuse s status else a).state.video.attn.Ok := by
  split
  · exact h
  · exact next

/-- A command that makes one operation of the picture blocks. -/
theorem Attention.Ok.carriedOut {s : State} {f : Video → Video} {p : List Byte} (h : (f s.video).attn.Ok) :
    (answerOk (s.modVideo f) p).state.video.attn.Ok := h

/-- A query, which clears the counters or keeps them. -/
theorem Attention.Ok.queried {s : State} {f : Video → Video} {clear : Bool} {p : List Byte} (h : s.video.attn.Ok)
    (cleared : (f s.video).attn.Ok) :
    (answerOk (if clear then s.modVideo f else s) p).state.video.attn.Ok := by
  cases clear with
  | true => exact cleared
  | false => exact h

/-! ## Slot commands (section 1.8) -/

theorem Attention.Ok.cmdSlotBase {slot : Byte} {base : BitVec 16} {s : State} (h : s.video.attn.Ok) :
    (cmdSlotBase slot base s).state.video.attn.Ok := by
  unfold Machine.cmdSlotBase
  cases slotOf slot with
  | none => exact h
  | some i => exact .row h (.carriedOut (.modSlot h))

theorem Attention.Ok.cmdSlotQuery {slot : Byte} {s : State} (h : s.video.attn.Ok) :
    (cmdSlotQuery slot s).state.video.attn.Ok := by
  unfold Machine.cmdSlotQuery
  cases slotOf slot with
  | none => exact h
  | some i => exact h

theorem Attention.Ok.pinSlot {i : SlotId} {s : State} (h : s.video.attn.Ok) :
    (pinSlot i s).state.video.attn.Ok := .row h (.row h (.carriedOut (.modSlot h)))

theorem Attention.Ok.pinNewest {arg : Byte} {s : State} (h : s.video.attn.Ok) :
    (pinNewest arg s).state.video.attn.Ok := by
  unfold Machine.pinNewest
  cases streamOf arg with
  | none => exact h
  | some st =>
    refine .row h ?_
    cases s.video.newestReady st with
    | none => exact h
    | some i => exact .pinSlot h

theorem Attention.Ok.pinSequence {arg : Byte} {seq : BitVec 32} {s : State} (h : s.video.attn.Ok) :
    (pinSequence arg seq s).state.video.attn.Ok := by
  unfold Machine.pinSequence
  cases streamOf arg with
  | none => exact h
  | some st =>
    refine .row h (.row h ?_)
    cases s.video.readyWith st seq with
    | none => exact h
    | some i => exact .pinSlot h

theorem Attention.Ok.pinWindow {arg : Byte} {s : State} (h : s.video.attn.Ok) :
    (pinWindow arg s).state.video.attn.Ok := by
  unfold Machine.pinWindow
  cases windowOf arg with
  | none => exact h
  | some w =>
    refine .row h ?_
    cases (s.video.window w).current with
    | none => exact h
    | some i => exact .row h (.pinSlot h)

theorem Attention.Ok.cmdPin {selector arg : Byte} {seq : BitVec 32} {s : State} (h : s.video.attn.Ok) :
    (cmdPin selector arg seq s).state.video.attn.Ok := by
  unfold Machine.cmdPin
  split
  · exact .pinNewest h
  split
  · exact .pinSequence h
  split
  · exact .pinWindow h
  · exact h

theorem Attention.Ok.cmdUnpin {slot : Byte} {s : State} (h : s.video.attn.Ok) :
    (cmdUnpin slot s).state.video.attn.Ok := by
  unfold Machine.cmdUnpin
  cases slotOf slot with
  | none => exact h
  | some i => exact .row h (.carriedOut (.tryDepart (.modSlot h)))

/-! ## Stream commands (section 2.8) -/

theorem Attention.Ok.cmdStreamOpen {stream source bpp : Byte} {width height pitch : BitVec 16} {delivery mask : Byte}
    {pool : List Byte} {s : State} (h : s.video.attn.Ok) :
    (cmdStreamOpen stream source bpp width height pitch delivery mask pool s).state.video.attn.Ok := by
  unfold Machine.cmdStreamOpen
  cases streamOf stream with
  | none => exact h
  | some st =>
    refine .row h ?_
    cases sourceOf source with
    | none => exact h
    | some src =>
      refine .row h (.row h ?_)
      cases deliveryOf delivery with
      | none => exact h
      | some d => exact .row h (.row h (.row h (.row h (.row h (.carriedOut (.openStream h))))))

theorem Attention.Ok.cmdStreamStart {stream : Byte} {s : State} (h : s.video.attn.Ok) :
    (cmdStreamStart stream s).state.video.attn.Ok := by
  unfold Machine.cmdStreamStart
  cases streamOf stream with
  | none => exact h
  | some st => exact .row h (.carriedOut (.onSource (.modStream h)))

theorem Attention.Ok.cmdStopAfterFrame {stream : Byte} {s : State} (h : s.video.attn.Ok) :
    (cmdStopAfterFrame stream s).state.video.attn.Ok := by
  unfold Machine.cmdStopAfterFrame
  cases streamOf stream with
  | none => exact h
  | some st =>
    dsimp only
    cases (s.video.stream st).state with
    | closed | opened | draining | stopping => exact h
    | running => exact .carriedOut (.stopAfterFrame h)

theorem Attention.Ok.cmdStopNow {stream : Byte} {s : State} (h : s.video.attn.Ok) :
    (cmdStopNow stream s).state.video.attn.Ok := by
  unfold Machine.cmdStopNow
  cases streamOf stream with
  | none => exact h
  | some st =>
    dsimp only
    cases (s.video.stream st).state with
    | closed | opened | draining => exact h
    | running | stopping => exact .carriedOut (.resuming (.stopNow h))

theorem Attention.Ok.cmdStreamStop {stream mode : Byte} {s : State} (h : s.video.attn.Ok) :
    (cmdStreamStop stream mode s).state.video.attn.Ok := by
  unfold Machine.cmdStreamStop
  split
  · exact .cmdStopAfterFrame h
  split
  · exact .cmdStopNow h
  · exact h

theorem Attention.Ok.cmdStreamClose {stream : Byte} {s : State} (h : s.video.attn.Ok) :
    (cmdStreamClose stream s).state.video.attn.Ok := by
  unfold Machine.cmdStreamClose
  cases streamOf stream with
  | none => exact h
  | some st =>
    dsimp only
    cases (s.video.stream st).state with
    | closed | draining => exact h
    | opened | running | stopping => exact .carriedOut (.resuming (.closeStream h))

theorem Attention.Ok.cmdPoolGrow {stream slot : Byte} {s : State} (h : s.video.attn.Ok) :
    (cmdPoolGrow stream slot s).state.video.attn.Ok := by
  unfold Machine.cmdPoolGrow
  split
  · exact .row h (.row h (.row h (.row h (.row h (.carriedOut (.join h))))))
  · exact h

theorem Attention.Ok.cmdPoolShrink {stream slot : Byte} {s : State} (h : s.video.attn.Ok) :
    (cmdPoolShrink stream slot s).state.video.attn.Ok := by
  unfold Machine.cmdPoolShrink
  split
  · exact .row h (.row h (.row h (.leave h)))
  · exact h

theorem Attention.Ok.cmdStreamQuery {stream option : Byte} {s : State} (h : s.video.attn.Ok) :
    (cmdStreamQuery stream option s).state.video.attn.Ok := by
  unfold Machine.cmdStreamQuery
  split
  · exact .queried h (.modStream h)
  · exact h

/-! ## Window commands (section 3.9) -/

theorem Attention.Ok.cmdWindowSet {window stream : Byte} {x0 y0 w h dx dy : BitVec 16} {hrep vrep guard : Byte}
    {s : State} (ok : s.video.attn.Ok) :
    (cmdWindowSet window stream x0 y0 w h dx dy hrep vrep guard s).state.video.attn.Ok := by
  unfold Machine.cmdWindowSet
  split
  · exact .row ok (.row ok (.row ok (.row ok (.carriedOut (.resuming (.modWindow (.freeWindow ok)))))))
  · exact ok

theorem Attention.Ok.cmdCadenceSet {window : Byte} {counts : List Byte} {s : State} (h : s.video.attn.Ok) :
    (cmdCadenceSet window counts s).state.video.attn.Ok := by
  unfold Machine.cmdCadenceSet
  cases windowOf window with
  | none => exact h
  | some k => exact .row h (.carriedOut (.modWindow h))

theorem Attention.Ok.cmdWindowClear {window : Byte} {s : State} (h : s.video.attn.Ok) :
    (cmdWindowClear window s).state.video.attn.Ok := by
  unfold Machine.cmdWindowClear
  cases windowOf window with
  | none => exact h
  | some k =>
    dsimp only
    split
    · exact h
    · exact .carriedOut (.resuming (.modWindow (.freeWindow h)))

theorem Attention.Ok.cmdWindowQuery {window option : Byte} {s : State} (h : s.video.attn.Ok) :
    (cmdWindowQuery window option s).state.video.attn.Ok := by
  unfold Machine.cmdWindowQuery
  split
  · exact .queried h (.modWindow h)
  · exact h

/-! ## Ingest, scan-out port, lock and memory channel commands (sections 5.11, 6.7, 7.7, 8.8) -/

theorem Attention.Ok.cmdIngestSet {port lossTimeout normalMark urgentMark : Byte} {s : State} (h : s.video.attn.Ok) :
    (cmdIngestSet port lossTimeout normalMark urgentMark s).state.video.attn.Ok := by
  unfold Machine.cmdIngestSet
  cases portNumber port with
  | none => exact h
  | some p => exact .row h (.row h (.row h (.carriedOut (.resuming (.lossIfDue (.modInput h))))))

theorem Attention.Ok.cmdIngestQuery {port option : Byte} {s : State} (h : s.video.attn.Ok) :
    (cmdIngestQuery port option s).state.video.attn.Ok := by
  unfold Machine.cmdIngestQuery
  split
  · exact .queried h (.modInput h)
  · exact h

theorem Attention.Ok.cmdPortSet {port bpp : Byte} {activeWidth activeLines : BitVec 16} {topBlank : Byte}
    {totalLines lineLength : BitVec 16} {border underrun : BitVec 32} {urgentLead : Byte} {s : State}
    (h : s.video.attn.Ok) :
    (cmdPortSet port bpp activeWidth activeLines topBlank totalLines lineLength border underrun urgentLead
      s).state.video.attn.Ok := by
  unfold Machine.cmdPortSet
  cases portNumber port with
  | none => exact h
  | some p => exact .row h (.row h (.row h (.row h (.carriedOut (.recheckLock (.modPort h))))))

theorem Attention.Ok.cmdPortOn {port : Byte} {s : State} (h : s.video.attn.Ok) :
    (cmdPortOn port s).state.video.attn.Ok := by
  unfold Machine.cmdPortOn
  cases portNumber port with
  | none => exact h
  | some p => exact .row h (.row h (.row h (.carriedOut (.modLock (.modPort h)))))

theorem Attention.Ok.cmdPortOff {port : Byte} {s : State} (h : s.video.attn.Ok) :
    (cmdPortOff port s).state.video.attn.Ok := by
  unfold Machine.cmdPortOff
  cases portNumber port with
  | none => exact h
  | some p => exact .row h (.carriedOut (.turnOff h))

theorem Attention.Ok.cmdPortQuery {port option : Byte} {s : State} (h : s.video.attn.Ok) :
    (cmdPortQuery port option s).state.video.attn.Ok := by
  unfold Machine.cmdPortQuery
  split
  · exact .queried h (.modPort h)
  · exact h

theorem Attention.Ok.cmdLockSet {port stream n w d : Byte} {s : State} (h : s.video.attn.Ok) :
    (cmdLockSet port stream n w d s).state.video.attn.Ok := by
  unfold Machine.cmdLockSet
  split
  · exact .row h (.row h (.row h (.carriedOut (.setLockConfig h))))
  · exact h

theorem Attention.Ok.cmdLockClear {port : Byte} {s : State} (h : s.video.attn.Ok) :
    (cmdLockClear port s).state.video.attn.Ok := by
  unfold Machine.cmdLockClear
  cases portNumber port with
  | none => exact h
  | some p => exact .carriedOut (.modPort (.modLock h))

theorem Attention.Ok.cmdMemoryQuery {option : Byte} {s : State} (h : s.video.attn.Ok) :
    (cmdMemoryQuery option s).state.video.attn.Ok := by
  unfold Machine.cmdMemoryQuery
  cases optionOf option with
  | none => exact h
  | some clear =>
    cases clear with
    | true => exact h
    | false => exact h

/-! ## Host frame commands (section 9.3) -/

theorem Attention.Ok.cmdFrameBegin {stream : Byte} {s : State} (h : s.video.attn.Ok) :
    (cmdFrameBegin stream s).state.video.attn.Ok := by
  unfold Machine.cmdFrameBegin
  cases streamOf stream with
  | none => exact h
  | some st =>
    refine .row h (.row h (.row h (.row h ?_)))
    have took : (s.video.take st).1.attn.Ok := .take h
    rcases same : s.video.take st with ⟨v, answer⟩
    rw [same] at took
    cases answer with
    | taken i q => exact took
    | refused => exact took
    | noTarget => exact .raiseStream (v := v.modStream st _) took

theorem Attention.Ok.cmdSpanWrite {stream : Byte} {line offset length : BitVec 16} {data : List Byte} {s : State}
    (h : s.video.attn.Ok) : (cmdSpanWrite stream line offset length data s).state.video.attn.Ok := by
  unfold Machine.cmdSpanWrite
  cases streamOf stream with
  | none => exact h
  | some st =>
    refine .row h (.row h ?_)
    cases (s.video.stream st).fillTarget with
    | none => exact h
    | some i => exact .row h (.row h (.row h h))

theorem Attention.Ok.cmdFramePublish {stream : Byte} {s : State} (h : s.video.attn.Ok) :
    (cmdFramePublish stream s).state.video.attn.Ok := by
  unfold Machine.cmdFramePublish
  cases streamOf stream with
  | none => exact h
  | some st =>
    refine .row h ?_
    cases (s.video.stream st).fillTarget with
    | none => exact h
    | some i => exact .carriedOut (.resuming (.publishHost h))

theorem Attention.Ok.cmdFrameAbandon {stream : Byte} {s : State} (h : s.video.attn.Ok) :
    (cmdFrameAbandon stream s).state.video.attn.Ok := by
  unfold Machine.cmdFrameAbandon
  cases streamOf stream with
  | none => exact h
  | some st =>
    refine .row h ?_
    cases (s.video.stream st).fillTarget with
    | none => exact h
    | some i => exact .carriedOut (.resuming (.endOfStop (.abandon h)))

theorem Attention.Ok.cmdSpanRead {slot : Byte} {line offset length : BitVec 16} {s : State} (h : s.video.attn.Ok) :
    (cmdSpanRead slot line offset length s).state.video.attn.Ok := by
  unfold Machine.cmdSpanRead
  cases slotOf slot with
  | none => exact h
  | some i => exact .row h (.row h (.row h (.row h (.row h h))))

/-! ## Attention commands and RESET (sections 10.4, 8.9) -/

/-- R167: what is left pending was pending. -/
theorem Attention.Ok.cmdAttnClear {entry causes : Byte} {s : State} (h : s.video.attn.Ok) :
    (cmdAttnClear entry causes s).state.video.attn.Ok := by
  unfold Machine.cmdAttnClear
  cases entryOf entry with
  | none => exact h
  | some e =>
    have left : ((s.video.attn.entry e).pending &&& ~~~ causes) &&& ~~~ kindCauses e = 0 := by
      rw [BitVec.and_assoc, BitVec.and_comm (~~~ causes), ← BitVec.and_assoc, h.pending e]
      exact BitVec.zero_and
    exact .row h (h.modEntry (f := fun x => { x with pending := x.pending &&& ~~~ causes }) left (h.enabled e))

/-- R165: a set with a cause of another kind is refused. -/
theorem Attention.Ok.cmdAttnMask {entry causes : Byte} {s : State} (h : s.video.attn.Ok) :
    (cmdAttnMask entry causes s).state.video.attn.Ok := by
  unfold Machine.cmdAttnMask
  cases entryOf entry with
  | none => exact h
  | some e =>
    dsimp only
    split
    · exact h
    · next legal => exact h.modEntry (f := fun x => { x with enabled := causes }) (h.pending e) (Classical.not_not.mp legal)

/-- R150, R169: the reset point leaves the reset table. -/
theorem Attention.Ok.cmdReset {s : State} (h : s.video.attn.Ok) : (cmdReset s).state.video.attn.Ok := by
  unfold Machine.cmdReset
  dsimp only
  split
  · exact Attention.Ok.reset
  · exact .idleOutputs h

/-! ## Every command (R173) -/

theorem Attention.Ok.runCmd {c : HostCmd} {s : State} (h : s.video.attn.Ok) :
    (runCmd c s).state.video.attn.Ok := by
  cases c with
  | slotBase => exact .cmdSlotBase h
  | slotQuery => exact .cmdSlotQuery h
  | pin => exact .cmdPin h
  | unpin => exact .cmdUnpin h
  | streamOpen => exact .cmdStreamOpen h
  | streamStart => exact .cmdStreamStart h
  | streamStop => exact .cmdStreamStop h
  | streamClose => exact .cmdStreamClose h
  | poolGrow => exact .cmdPoolGrow h
  | poolShrink => exact .cmdPoolShrink h
  | streamQuery => exact .cmdStreamQuery h
  | windowSet => exact .cmdWindowSet h
  | cadenceSet => exact .cmdCadenceSet h
  | windowClear => exact .cmdWindowClear h
  | windowQuery => exact .cmdWindowQuery h
  | ingestSet => exact .cmdIngestSet h
  | ingestQuery => exact .cmdIngestQuery h
  | portSet => exact .cmdPortSet h
  | portOn => exact .cmdPortOn h
  | portOff => exact .cmdPortOff h
  | portQuery => exact .cmdPortQuery h
  | lockSet => exact .cmdLockSet h
  | lockClear => exact .cmdLockClear h
  | memoryQuery => exact .cmdMemoryQuery h
  | frameBegin => exact .cmdFrameBegin h
  | spanWrite => exact .cmdSpanWrite h
  | framePublish => exact .cmdFramePublish h
  | frameAbandon => exact .cmdFrameAbandon h
  | spanRead => exact .cmdSpanRead h
  | attnRead | nop => exact h
  | attnClear => exact .cmdAttnClear h
  | attnMask => exact .cmdAttnMask h
  | reset => exact .cmdReset h

end Sys2Proof.Machine
end

section
/-! SUPPORT. What the memory channel, the host link and every step keep of the attention table: a link fault and the end
of calibration raise causes of the device entry, and both resets leave the reset table (R150, R169, R178). -/

namespace Sys2Proof.Machine

/-! ## The memory channel (Chapter 8) -/

theorem Attention.Ok.iteState {c : Prop} [Decidable c] {s t : State} (hs : s.video.attn.Ok) (ht : t.video.attn.Ok) :
    (if c then s else t).video.attn.Ok := by
  split
  · exact hs
  · exact ht

theorem Attention.Ok.modVideo {s : State} {f : Video → Video} (h : (f s.video).attn.Ok) :
    (s.modVideo f).video.attn.Ok := h

theorem Attention.Ok.modHost {s : State} {f : HostUnit → HostUnit} (h : s.video.attn.Ok) :
    (s.modHost f).video.attn.Ok := h

theorem Attention.Ok.grantInput {s : State} {p : PortId} (h : s.video.attn.Ok) : (s.grantInput p).video.attn.Ok := by
  unfold State.grantInput
  cases (s.video.input p).fifo with
  | nil => exact h
  | cons b rest => exact .modInput h

theorem Attention.Ok.grantPort {s : State} {p : PortId} (h : s.video.attn.Ok) : (s.grantPort p).video.attn.Ok := by
  unfold State.grantPort
  cases (s.video.port p).pendingReads with
  | nil => exact h
  | cons r rest =>
    dsimp only
    split
    · exact .modPort (.modPort h)
    · exact .modPort (.modPort h)
    · exact .modPort h

/-- R144: a grant moves a transfer to the in-flight list and raises nothing. -/
theorem Attention.Ok.grantOnce {s : State} (h : s.video.attn.Ok) : s.grantOnce.video.attn.Ok := by
  unfold State.grantOnce
  cases s.choose with
  | none => exact h
  | some chosen =>
    cases chosen with
    | host => exact h
    | requester r c =>
      rw [State.modChannel_video, State.serve]
      split
      · exact .grantInput h
      · exact .grantPort h

theorem Attention.Ok.discardCompletion {v : Video} {t : Transfer} (h : v.attn.Ok) :
    (v.discardCompletion t).attn.Ok := by
  cases t with
  | ingestWrite => exact .modInput h
  | portRead => exact .modPort h
  | hostWrite | hostRead => exact h

theorem Attention.Ok.deliver {s : State} {t : Transfer} (h : s.video.attn.Ok) : (s.deliver t).video.attn.Ok := by
  unfold State.deliver
  cases t with
  | ingestWrite => exact .modVideo (.resuming (.writeCompleted h))
  | portRead => exact .modVideo (.modPort h)
  | hostWrite | hostRead => exact h

theorem Attention.Ok.completeHead {s : State} {t : Transfer} {rest : List Transfer} (h : s.video.attn.Ok) :
    (s.completeHead t rest).video.attn.Ok := by
  unfold State.completeHead
  exact .iteState (.discardCompletion h) (.deliver h)

/-! ## Taking and answering commands (R173, R177) -/

/-- R172, R178: a link fault raises LINK_FAULT. -/
theorem Attention.Ok.linkFault {s : State} {k : LinkFault} {tag : Byte} (h : s.video.attn.Ok) :
    (s.linkFault k tag).video.attn.Ok := .raiseDevice h

theorem Attention.Ok.finishTake {e : CmdEntry} {a : Answer} (h : a.state.video.attn.Ok) :
    (finishTake e a).video.attn.Ok := by
  cases a with
  | done | long => exact h

theorem Attention.Ok.takeEntry {e : CmdEntry} {s : State} (h : s.video.attn.Ok) : (takeEntry e s).video.attn.Ok := by
  unfold Machine.takeEntry
  refine .iteState h ?_
  cases parseCmd e.code e.payload with
  | badCommand | badLength => exact h
  | cmd c => exact .finishTake (.runCmd h)

/-- R173: however many waiting commands are taken in one happening. -/
theorem Attention.Ok.settle {s : State} (h : s.video.attn.Ok) : s.settle.video.attn.Ok := by
  have taken (n : Nat) : ∀ {s : State}, s.video.attn.Ok → (settleFor n s).video.attn.Ok := by
    induction n with
    | zero => exact id
    | succ n ih =>
      intro s h
      unfold settleFor
      refine .iteState ?_ h
      cases s.link.commands with
      | nil => exact h
      | cons e rest => exact ih (.takeEntry h)
  exact taken _ h

theorem Attention.Ok.accept {s : State} {e : CmdEntry} (h : s.video.attn.Ok) : (s.accept e).video.attn.Ok :=
  .iteState (.linkFault h) (.settle h)

theorem Attention.Ok.command {s : State} {tag : Byte} {c : HostCmd} (h : s.video.attn.Ok) :
    (s.command tag c).video.attn.Ok :=
  .iteState (.linkFault h) (.iteState (.finishTake (.runCmd h)) (.accept h))

theorem Attention.Ok.endLong {s : State} {status : Status} {payload : List Byte} (h : s.video.attn.Ok) :
    (s.endLong status payload).video.attn.Ok := by
  unfold State.endLong
  cases s.link.executing with
  | none => exact h
  | some e => exact .settle h

theorem Attention.Ok.endSpan {s : State} (h : s.video.attn.Ok) : s.endSpan.video.attn.Ok := .iteState (.endLong h) h

/-- R150, R179: the reset point. -/
theorem Attention.Ok.endDrain {s : State} (h : s.video.attn.Ok) : s.endDrain.video.attn.Ok :=
  .iteState (.endLong Attention.Ok.reset) h

/-! ## Link transactions (R171 to R178) -/

theorem Attention.Ok.shiftZeros {s : State} {count : Nat} (h : s.video.attn.Ok) :
    (s.shiftZeros count).video.attn.Ok := h

theorem Attention.Ok.receiveFrame {s : State} {bytes : List Byte} (h : s.video.attn.Ok) :
    (s.receiveFrame bytes).video.attn.Ok := by
  unfold State.receiveFrame
  cases frameFault bytes with
  | some k => exact .linkFault h
  | none => exact .accept h

theorem Attention.Ok.readResponse {s : State} {count : Nat} (h : s.video.attn.Ok) :
    (s.readResponse count).video.attn.Ok := by
  unfold State.readResponse
  cases s.link.responses with
  | nil => exact h
  | cons r rest => exact .iteState (.settle h) h

theorem Attention.Ok.abortNow {s : State} {flag : Byte} (h : s.video.attn.Ok) : (s.abortNow flag).video.attn.Ok := by
  unfold State.abortNow
  exact .endSpan (.modHost (.iteState h h))

/-! ## Outcomes of a step -/

/-- A step that ends in a next state ends in this one. -/
theorem Attention.Ok.next {s t : State} (h : s.video.attn.Ok) (ends : (Host.Outcome.next s : Result) = .next t) :
    t.video.attn.Ok := Host.Outcome.next.inj ends ▸ h

theorem Attention.Ok.transferDone {s t : State} (h : s.video.attn.Ok) (ends : s.transferDone = .next t) :
    t.video.attn.Ok := by
  unfold State.transferDone at ends
  split at ends
  · exact h.next ends
  · split at ends
    · exact Attention.Ok.next (.endDrain (.endSpan (.completeHead h))) ends
    · cases ends

theorem Attention.Ok.execResetPoint {s t : State} (h : s.video.attn.Ok) (ends : execResetPoint s = .next t) :
    t.video.attn.Ok := by
  unfold Machine.execResetPoint at ends
  split at ends
  · split at ends
    · exact Attention.Ok.next (.endDrain h) ends
    · exact h.transferDone ends
    · exact h.next ends
  · exact h.next ends

theorem Attention.Ok.spanEnds {s t : State} {k : HostState} (h : s.video.attn.Ok) (ends : s.spanEnds k = .next t) :
    t.video.attn.Ok := by
  unfold State.spanEnds at ends
  split at ends
  · split at ends
    · exact Attention.Ok.next (.endSpan h) ends
    · split at ends
      · exact h.transferDone ends
      · exact h.next ends
  · exact h.next ends

/-- R171, R172: the bytes of a transaction are shifted first. -/
theorem Attention.Ok.execAbort {s t : State} {bytes : List Byte} (h : s.video.attn.Ok)
    (ends : execAbort bytes s = .next t) : t.video.attn.Ok := by
  unfold Machine.execAbort at ends
  cases bytes with
  | nil => exact Attention.Ok.next (.linkFault (.shiftZeros h)) ends
  | cons flag rest => exact Attention.Ok.next (.abortNow (.shiftZeros h)) ends

theorem Attention.Ok.execUnknownType {s t : State} {typeByte : Byte} {count : Nat} (h : s.video.attn.Ok)
    (ends : execUnknownType typeByte count s = .next t) : t.video.attn.Ok := by
  unfold Machine.execUnknownType at ends
  split at ends
  · exact Attention.Ok.next (.linkFault (.shiftZeros h)) ends
  · cases ends

theorem Attention.Ok.execBadCommand {s t : State} {tag code : Byte} {payload : List Byte} (h : s.video.attn.Ok)
    (ends : execBadCommand tag code payload s = .next t) : t.video.attn.Ok := by
  unfold Machine.execBadCommand at ends
  split at ends
  · cases ends
  · dsimp only at ends
    split at ends
    · exact Attention.Ok.next (.linkFault h) ends
    · exact Attention.Ok.next (.accept h) ends

/-- R140: the device entry gains DRAM_READY. -/
theorem Attention.Ok.execCalibrationPass {s t : State} (h : s.video.attn.Ok)
    (ends : execCalibrationPass s = .next t) : t.video.attn.Ok := by
  unfold Machine.execCalibrationPass at ends
  split at ends
  · exact Attention.Ok.next (s := s.endCalibration .ready .dramReady) (.raiseDevice h) ends
  · exact h.next ends

/-- R140: the device entry gains DRAM_FAILED after the third attempt. -/
theorem Attention.Ok.execCalibrationFail {s t : State} (h : s.video.attn.Ok)
    (ends : execCalibrationFail s = .next t) : t.video.attn.Ok := by
  unfold Machine.execCalibrationFail at ends
  split at ends
  · split at ends
    · exact Attention.Ok.next (s := s.modChannel _) h ends
    · exact Attention.Ok.next (s := s.endCalibration .failed .dramFailed) (.raiseDevice h) ends
  · exact h.next ends

/-- R106, R125, R179: a happening at a port has no effect while a soft reset drains. -/
theorem Attention.Ok.videoEvent {s : State} {f : Video → Video} (h : s.video.attn.Ok) (keeps : (f s.video).attn.Ok) :
    (s.videoEvent f).video.attn.Ok := .iteState h keeps

theorem Attention.Ok.tick {s : State} (h : s.video.attn.Ok) : s.tick.video.attn.Ok :=
  .videoEvent h (.resuming (.foldl (fun _ _ => .tickInput) h))

/-- Log 4: the row of a host command is the command sent in a well-formed frame. -/
theorem exec_hostCommand {i : Instr} {tag : Byte} {c : HostCmd} (s : State) (h : hostCommand i = some (tag, c)) :
    exec i s = .next (s.command tag c) := by
  cases i <;> cases h <;> rfl

/-- Every row of the opcode table: a host command, or one of the transactions, ends and events. -/
theorem Attention.Ok.exec {i : Instr} {s t : State} (h : s.video.attn.Ok) (ends : exec i s = .next t) :
    t.video.attn.Ok := by
  cases sent : hostCommand i with
  | some command => exact Attention.Ok.next (.command h) (exec_hostCommand s sent ▸ ends)
  | none =>
    cases i with
    | powerOnReset => exact Attention.Ok.next (s := s.powerOn) Attention.Ok.reset ends
    | powerOnResetRelease => exact Attention.Ok.next (s := s.modChannel _) h ends
    | calibrationPass => exact h.execCalibrationPass ends
    | calibrationFail => exact h.execCalibrationFail ends
    | commandWrite bytes => exact Attention.Ok.next (.receiveFrame (.shiftZeros h)) ends
    | responseRead count => exact Attention.Ok.next (.readResponse h) ends
    | statusRead count => exact Attention.Ok.next (s := s.shiftOut _) h ends
    | abort bytes => exact h.execAbort ends
    | unknownType typeByte count => exact h.execUnknownType ends
    | badCommand tag code payload => exact h.execBadCommand ends
    | resetPoint => exact h.execResetPoint ends
    | spanWriteEnd | spanReadEnd => exact h.spanEnds ends
    | inputFrameStart port => exact Attention.Ok.next (.videoEvent h (.resuming (.inputFrameStart h))) ends
    | inputFrameEnd port => exact Attention.Ok.next (.videoEvent h (.resuming (.inputFrameEnd h))) ends
    | inputLineStart port => exact Attention.Ok.next (.videoEvent h (.resuming (.inputLineStart h))) ends
    | inputLineEnd port => exact Attention.Ok.next (.videoEvent h (.resuming (.inputLineEnd h))) ends
    | pixel port data => exact Attention.Ok.next (.videoEvent h (.inputPixel h)) ends
    | lossTimeout port => exact Attention.Ok.next (.videoEvent h (.resuming (.lossTimeout h))) ends
    | lineStart port => exact Attention.Ok.next (.videoEvent h (.ite (.lineStart h) h)) ends
    | grant => exact Attention.Ok.next (.grantOnce h) ends
    | transferComplete => exact h.transferDone ends
    | _ => cases sent

theorem Attention.Ok.step {s t : State} (h : s.video.attn.Ok) (ends : step s = .next t) : t.video.attn.Ok := by
  unfold Machine.step at ends
  split at ends
  · exact Attention.Ok.next (.tick h) ends
  · next c rest _ => exact Attention.Ok.exec (s := { s with pending := rest }) h ends

end Sys2Proof.Machine
end

section
/-! The statements about the attention table (Chapter 10): its invariant, a raise, ATTN_READ, ATTN_CLEAR and
ATTN_MASK. -/

namespace Sys2Proof.Machine

/-- Settles O16, by what each operation of the model keeps of the attention table. -/
theorem attnKept : Obligations.AttnKept := fun _ _ ok ends => ok.step ends

/-- Settles O15: each is one entry changed, or none, and the line is derived again from the entries. -/
theorem attentionChanges : Obligations.AttentionChanges := by
  have fits : 2 ≤ Config.maxPayload := by decide
  refine ⟨fun v e cause => ⟨_, rfl, v.attn.modEntry_spec e _⟩, fun s tag free => ⟨?_, fun e causes h => ⟨?_, ?_⟩⟩⟩
  · have taken : s.command tag .attnRead = s.carriedOut tag 0x70 s.video.attn.elements s.video :=
      State.command_answerOk free tag _ (Nat.zero_le _) rfl
    rw [Attention.elements_eq] at taken
    exact congrArg Host.Outcome.next taken
  · have cleared := State.command_answerOk free tag (.attnClear (natByte e.val) causes) fits
      (cmdAttnClear_natByte s (legal_causes_of_lt h))
    exact ⟨_, congrArg Host.Outcome.next cleared, s.video.attn.modEntry_spec e _⟩
  · have masked := State.command_answerOk free tag (.attnMask (natByte e.val) causes) fits
      (cmdAttnMask_natByte s (legal_causes_of_lt h))
    exact ⟨_, congrArg Host.Outcome.next masked, s.video.attn.modEntry_spec e _⟩

end Sys2Proof.Machine
end

section
/-! SUPPORT. The line of commands (R174): answering, holding and taking a command move the places between its three
parts and leave the order; a fault and the picture blocks do not reach it; only an accepted command joins it and only a
response read whole leaves it. -/

namespace Sys2Proof.Machine

/-! ## Taking and answering commands (R173, R177) -/

theorem Link.executing_of_mayTake {l : Link} (h : l.mayTake = true) : l.executing = none := by
  unfold Link.mayTake at h
  rw [Bool.and_eq_true, Option.isNone_iff_eq_none] at h
  exact h.1

/-- A taken entry, answered or held, is in the line where it stood at the head of the queue. -/
theorem finishTake_line {e : CmdEntry} {a : Answer} (idle : a.state.link.executing = none) :
    (finishTake e a).link.line = { a.state.link with commands := e :: a.state.link.commands }.line := by
  cases a with
  | done s | long s =>
    have free : s.link.executing = none := idle
    simp [Link.line, free]

theorem finishTake_runCmd_line {e : CmdEntry} {c : HostCmd} {s : State} (idle : s.link.executing = none) :
    (finishTake e (runCmd c s)).link.line = { s.link with commands := e :: s.link.commands }.line := by
  have same := (runCmd_untouched c s).link
  rw [finishTake_line (same ▸ idle), same]

theorem takeEntry_line {e : CmdEntry} {s : State} (idle : s.link.executing = none) :
    (takeEntry e s).link.line = { s.link with commands := e :: s.link.commands }.line := by
  unfold takeEntry
  split
  · exact finishTake_line (a := refuse s .purged) idle
  cases parseCmd e.code e.payload with
  | badCommand => exact finishTake_line (a := refuse s .badCommand) idle
  | badLength => exact finishTake_line (a := refuse s .badLength) idle
  | cmd c => exact finishTake_runCmd_line idle

theorem settleFor_line (n : Nat) (s : State) : (settleFor n s).link.line = s.link.line := by
  induction n generalizing s with
  | zero => rfl
  | succ n ih =>
    unfold settleFor
    split
    · next may =>
      split
      · rfl
      · next e rest queued =>
        have taken := takeEntry_line (e := e) (s := s.modLink fun l => { l with commands := rest })
          (Link.executing_of_mayTake may)
        rw [ih, taken, State.modLink_link, ← queued]
    · rfl

/-- R173: however many waiting commands are taken in one happening. -/
@[simp] theorem State.settle_line (s : State) : s.settle.link.line = s.link.line := settleFor_line _ s

/-- R177: the executing command, answered, stays between the responses before it and the commands that wait. -/
@[simp] theorem State.endLong_line (s : State) (status : Status) (payload : List Byte) :
    (s.endLong status payload).link.line = s.link.line := by
  unfold State.endLong
  split
  · rfl
  · next e held => rw [State.settle_line]; simp [Link.line, held]

@[simp] theorem State.endSpan_line (s : State) : s.endSpan.link.line = s.link.line := by
  unfold State.endSpan
  split
  · exact State.endLong_line _ _ _
  · rfl

/-- R179: the soft reset does not reset the link record. -/
@[simp] theorem State.endDrain_line (s : State) : s.endDrain.link.line = s.link.line := by
  unfold State.endDrain
  split
  · exact State.endLong_line _ _ _
  · rfl

/-! ## The memory channel (Chapter 8) -/

theorem State.grantInput_link (s : State) (p : PortId) : (s.grantInput p).link = s.link := by
  unfold State.grantInput
  cases (s.video.input p).fifo with
  | nil => rfl
  | cons b rest => rfl

theorem State.grantPort_link (s : State) (p : PortId) : (s.grantPort p).link = s.link := by
  unfold State.grantPort
  cases (s.video.port p).pendingReads with
  | nil => rfl
  | cons r rest => dsimp only; split <;> rfl

theorem State.grantOnce_link (s : State) : s.grantOnce.link = s.link := by
  unfold State.grantOnce
  cases s.choose with
  | none => rfl
  | some chosen =>
    cases chosen with
    | host => rfl
    | requester r c =>
      rw [State.modChannel_link, State.serve]
      split
      · exact s.grantInput_link _
      · exact s.grantPort_link _

theorem State.deliver_link (s : State) (t : Transfer) : (s.deliver t).link = s.link := by
  cases t with
  | ingestWrite | portRead | hostWrite | hostRead => rfl

theorem State.completeHead_link (s : State) (t : Transfer) (rest : List Transfer) :
    (s.completeHead t rest).link = s.link := by
  unfold State.completeHead
  dsimp only
  split
  · rfl
  · exact State.deliver_link _ t

/-- R147 to R150: the span or the drain that a completion ends answers the executing command. -/
theorem State.transferDone_line {s t : State} (ends : s.transferDone = .next t) : t.link.line = s.link.line := by
  unfold State.transferDone at ends
  split at ends
  · cases ends; rfl
  · split at ends
    · cases ends
      rw [State.endDrain_line, State.endSpan_line, State.completeHead_link]
    · cases ends

theorem execResetPoint_line {s t : State} (ends : execResetPoint s = .next t) : t.link.line = s.link.line := by
  unfold execResetPoint at ends
  split at ends
  · split at ends
    · cases ends; exact s.endDrain_line
    · exact State.transferDone_line ends
    · cases ends; rfl
  · cases ends; rfl

theorem State.spanEnds_line {s t : State} {k : HostState} (ends : s.spanEnds k = .next t) :
    t.link.line = s.link.line := by
  unfold State.spanEnds at ends
  split at ends
  · split at ends
    · cases ends; exact s.endSpan_line
    · split at ends
      · exact State.transferDone_line ends
      · cases ends; rfl
  · cases ends; rfl

/-! ## Calibration and the events of the ports -/

theorem execCalibrationPass_line {s t : State} (ends : execCalibrationPass s = .next t) :
    t.link.line = s.link.line := by
  unfold execCalibrationPass at ends
  split at ends
  · cases ends; rfl
  · cases ends; rfl

theorem execCalibrationFail_line {s t : State} (ends : execCalibrationFail s = .next t) :
    t.link.line = s.link.line := by
  unfold execCalibrationFail at ends
  split at ends
  · split at ends
    · cases ends; rfl
    · cases ends; rfl
  · cases ends; rfl

theorem State.videoEvent_link (s : State) (f : Video → Video) : (s.videoEvent f).link = s.link := by
  unfold State.videoEvent
  split
  · rfl
  · rfl

/-! ## Transactions that neither send a command nor read a response (R171, R178) -/

/-- R178: a purge mark changes neither tag nor code. -/
theorem Link.purge_line (l : Link) : l.purge.line = l.line := by simp [Link.purge, Link.line]

theorem State.abortNow_line (s : State) (flag : Byte) : (s.abortNow flag).link.line = s.link.line := by
  unfold State.abortNow
  dsimp only
  rw [State.endSpan_line, State.modHost_link]
  split
  · exact s.link.purge_line
  · rfl

theorem execAbort_line {s t : State} {bytes : List Byte} (ends : execAbort bytes s = .next t) :
    t.link.line = s.link.line := by
  cases bytes with
  | nil => cases ends; rfl
  | cons flag more => cases ends; exact State.abortNow_line _ flag

theorem execUnknownType_line {s t : State} {typeByte : Byte} {count : Nat}
    (ends : execUnknownType typeByte count s = .next t) : t.link.line = s.link.line := by
  unfold execUnknownType at ends
  split at ends
  · cases ends; rfl
  · cases ends

/-! ## A command that joins the line (R172) -/

/-- One command is accepted and joins the line at its end, or a link fault refuses it. -/
def Joins (s t : State) : Prop :=
  ∃ added : List (Byte × Byte), t.link.line = s.link.line ++ added ∧ added.length ≤ 1

theorem Joins.refused {s t : State} (h : t.link.line = s.link.line) : Joins s t := ⟨[], by simp [h], by simp⟩

/-- The end of the command queue is the end of the line. -/
theorem Link.line_enqueue (l : Link) (e : CmdEntry) :
    { l with commands := l.commands ++ [e] }.line = l.line ++ [(e.tag, e.code)] := by simp [Link.line]

theorem Joins.accept (s : State) (e : CmdEntry) : Joins s (s.accept e) := by
  unfold State.accept
  split
  · exact .refused rfl
  · exact ⟨[(e.tag, e.code)], by rw [State.settle_line]; exact s.link.line_enqueue e, Nat.le_refl 1⟩

theorem Joins.command (s : State) (tag : Byte) (c : HostCmd) : Joins s (s.command tag c) := by
  unfold State.command
  split
  · exact .refused rfl
  split
  · next free =>
    rw [Bool.and_eq_true, List.isEmpty_iff] at free
    obtain ⟨may, empty⟩ := free
    refine ⟨[(tag, c.code)], ?_, Nat.le_refl 1⟩
    have enqueued := s.link.line_enqueue (c.entry tag)
    rw [finishTake_runCmd_line (Link.executing_of_mayTake may)]
    rw [empty] at enqueued ⊢
    exact enqueued
  · exact .accept s _

theorem Joins.receiveFrame (s : State) (bytes : List Byte) : Joins s (s.receiveFrame bytes) := by
  unfold State.receiveFrame
  cases frameFault bytes with
  | some k => exact .refused rfl
  | none => exact .accept s _

theorem Joins.execBadCommand {s t : State} {tag code : Byte} {payload : List Byte}
    (ends : execBadCommand tag code payload s = .next t) : Joins s t := by
  unfold Machine.execBadCommand at ends
  split at ends
  · cases ends
  · dsimp only at ends
    split at ends
    · cases ends; exact .refused rfl
    · cases ends; exact .accept s _

/-! ## A response that leaves the line (R175) -/

theorem State.readResponse_line (s : State) (count : Nat) :
    ∃ removed : Nat, (s.readResponse count).link.line = s.link.line.drop removed ∧ removed ≤ 1 ∧
      (removed = 1 → s.link.responses ≠ []) := by
  unfold State.readResponse
  cases queued : s.link.responses with
  | nil => exact ⟨0, rfl, by simp, by simp⟩
  | cons r rest =>
    dsimp only
    split
    · exact ⟨1, by rw [State.settle_line]; simp [Link.line, queued, State.shiftOut], Nat.le_refl 1, by simp⟩
    · exact ⟨0, rfl, by simp, by simp⟩

/-! ## Every step (R174) -/

/-- The rows by which the host sends a command. -/
def Sends (c : Instr) : Prop :=
  (∃ bytes, c = .commandWrite bytes) ∨ (∃ tag code payload, c = .badCommand tag code payload) ∨ hostCommand c ≠ none

/-- R174: between `s` and `t` at most one place leaves the front of the line, as a response read, and at most one joins
its end, as a command sent. -/
def FollowsOrder (c : Instr) (s t : State) : Prop :=
  ∃ (removed : Nat) (added : List (Byte × Byte)),
    t.link.line = s.link.line.drop removed ++ added ∧ removed ≤ 1 ∧ added.length ≤ 1 ∧
    (removed = 1 → s.link.responses ≠ [] ∧ ∃ count, c = .responseRead count) ∧ (added ≠ [] → Sends c)

theorem FollowsOrder.same {c : Instr} {s t : State} (h : t.link.line = s.link.line) : FollowsOrder c s t :=
  ⟨0, [], by simp [h], by simp, by simp, by simp, by simp⟩

theorem FollowsOrder.joined {c : Instr} {s t : State} (sends : Sends c) (h : Joins s t) : FollowsOrder c s t := by
  obtain ⟨added, line, one⟩ := h
  exact ⟨0, added, line, by simp, one, by simp, fun _ => sends⟩

theorem FollowsOrder.read (s : State) (count : Nat) : FollowsOrder (.responseRead count) s (s.readResponse count) := by
  obtain ⟨removed, line, one, queued⟩ := s.readResponse_line count
  exact ⟨removed, [], by simp [line], one, by simp, fun h => ⟨queued h, count, rfl⟩, by simp⟩

/-- Every row of the opcode table but power-on reset. -/
theorem FollowsOrder.exec {c : Instr} {s t : State} (ends : exec c s = .next t) (up : c ≠ .powerOnReset) :
    FollowsOrder c s t := by
  cases sent : hostCommand c with
  | some command =>
    rw [exec_hostCommand s sent] at ends
    cases ends
    exact .joined (.inr (.inr (by simp [sent]))) (.command s _ _)
  | none =>
    cases c with
    | powerOnReset => exact absurd rfl up
    | commandWrite bytes => cases ends; exact .joined (.inl ⟨bytes, rfl⟩) (.receiveFrame (s.shiftZeros _) bytes)
    | badCommand tag code payload =>
      exact .joined (.inr (.inl ⟨tag, code, payload, rfl⟩)) (.execBadCommand ends)
    | responseRead count => cases ends; exact .read s count
    | powerOnResetRelease | statusRead => cases ends; exact .same rfl
    | calibrationPass => exact .same (execCalibrationPass_line ends)
    | calibrationFail => exact .same (execCalibrationFail_line ends)
    | abort => exact .same (execAbort_line ends)
    | unknownType => exact .same (execUnknownType_line ends)
    | resetPoint => exact .same (execResetPoint_line ends)
    | spanWriteEnd | spanReadEnd => exact .same (State.spanEnds_line ends)
    | inputFrameStart | inputFrameEnd | inputLineStart | inputLineEnd | pixel | lossTimeout | lineStart =>
      cases ends; exact .same (congrArg Link.line (s.videoEvent_link _))
    | grant => cases ends; exact .same (congrArg Link.line s.grantOnce_link)
    | transferComplete => exact .same (State.transferDone_line ends)
    | _ => cases sent

end Sys2Proof.Machine
end

section
/-! SUPPORT. The bytes the link shifts out: a response frame (R174), what is read of a frame and past its end (R175), and
the status byte (R176). -/

namespace Sys2Proof.Machine

/-- R183: the two bytes of a number, low byte first. -/
theorem natBytes16_eq {n : Nat} (h : n < 65536) :
    natBytes16 n = [BitVec.ofNat 8 (n % 256), BitVec.ofNat 8 (n / 256)] := by
  have low : (BitVec.ofNat 16 n).extractLsb' 0 8 = BitVec.ofNat 8 (n % 256) := by
    apply BitVec.eq_of_toNat_eq
    simp only [BitVec.extractLsb'_toNat, BitVec.toNat_ofNat, Nat.shiftRight_zero]
    omega
  have high : (BitVec.ofNat 16 n).extractLsb' 8 8 = BitVec.ofNat 8 (n / 256) := by
    apply BitVec.eq_of_toNat_eq
    simp only [BitVec.extractLsb'_toNat, BitVec.toNat_ofNat, Nat.shiftRight_eq_div_pow]
    omega
  rw [natBytes16, bytes16, low, high]

theorem Response.bytes_sum (r : Response) : (r.bytes.map BitVec.toNat).sum % 256 = 0 :=
  (byteSum_eq_zero _).mp (byteSum_closed _)

/-- R175: byte `k` shifted out after the type byte is byte `k` of the frame, FFh past its end. -/
theorem readBytes_eq (frame : List Byte) (count : Nat) :
    readBytes frame count = (List.range count).map fun k => frame.getD k 0xFF := by
  unfold readBytes
  apply List.ext_getElem
  · simp only [List.length_append, List.length_take, List.length_replicate, List.length_map, List.length_range]
    omega
  · intro k _ shifted
    have asked : k < count := by rwa [List.length_map, List.length_range] at shifted
    rw [List.getElem_map, List.getElem_range, List.getD_eq_getElem?_getD]
    rcases Nat.lt_or_ge k frame.length with inside | past
    · have taken : k < (frame.take count).length := by rw [List.length_take]; omega
      rw [List.getElem_append_left taken, List.getElem_take, List.getElem?_eq_getElem inside, Option.getD_some]
    · have padded : (frame.take count).length ≤ k := by rw [List.length_take]; omega
      rw [List.getElem_append_right padded, List.getElem_replicate, List.getElem?_eq_none past, Option.getD_none]

/-- R171, R175: what a read of `count` bytes leaves on LNK_SDO. -/
theorem State.shiftOut_readBytes (s : State) (frame : List Byte) (count : Nat) :
    s.shiftOut (readBytes frame count) = s.shifted ((List.range count).map fun k => frame.getD k 0xFF) := by
  rw [readBytes_eq]; rfl

/-- R175: without a response every byte is FFh. -/
theorem State.readResponse_nil {s : State} (empty : s.link.responses = []) (count : Nat) :
    s.readResponse count = s.shifted (List.replicate count 0xFF) := by
  rw [State.readResponse, empty]
  simp [readBytes, State.shiftOut, State.shifted, State.modLink]

/-- R175: a response that is not read whole stays. -/
theorem State.readResponse_short {s : State} {r : Response} {rest : List Response} {count : Nat}
    (queued : s.link.responses = r :: rest) (short : count < r.bytes.length) :
    s.readResponse count = s.shifted ((List.range count).map fun k => r.bytes.getD k 0xFF) := by
  rw [State.readResponse, queued]
  dsimp only
  rw [if_neg (Nat.not_le.mpr short), State.shiftOut_readBytes]

/-- R175: a response that is read whole is removed, and the head command is taken when it now may be (R173). -/
theorem State.readResponse_whole {s : State} {r : Response} {rest : List Response} {count : Nat}
    (queued : s.link.responses = r :: rest) (whole : r.bytes.length ≤ count) :
    s.readResponse count
      = ((s.shifted ((List.range count).map fun k => r.bytes.getD k 0xFF)).modLink
          fun l => { l with responses := rest }).settle := by
  rw [State.readResponse, queued]
  dsimp only
  rw [if_pos whole, State.shiftOut_readBytes]

/-! ## Taking after a response was removed (R173) -/

theorem settleFor_blocked {s : State} (h : s.link.mayTake = false) (n : Nat) : settleFor n s = s := by
  cases n with
  | zero => rfl
  | succ n => simp [settleFor, h]

/-- Nothing is taken while a command executes, or when none waits. -/
theorem State.settle_waits {s : State} (h : s.link.executing ≠ none ∨ s.link.commands = []) : s.settle = s := by
  rcases h with held | empty
  · exact settleFor_blocked (by simp [Link.mayTake, held]) _
  · exact State.settle_nil empty

/-- A purged command answered into the last free place of the response queue: the commands behind it wait on. -/
theorem State.settle_purged_last {s : State} {e : CmdEntry} {more : List CmdEntry} (idle : s.link.executing = none)
    (last : s.link.responses.length = 7) (waiting : s.link.commands = e :: more) (purged : e.purged = true) :
    s.settle = (s.modLink fun l => { l with commands := more }).respond e.tag e.code .purged [] := by
  have may : s.link.mayTake = true := by simp [Link.mayTake, idle, last, Config.queueDepth]
  rw [State.settle, waiting, List.length_cons, settleFor, if_pos may, waiting]
  dsimp only
  rw [takeEntry, if_pos purged, finishTake_refuse]
  exact settleFor_blocked (by simp [Link.mayTake, last, Config.queueDepth]) _

/-! ## The status byte (R176) -/

/-- R176: bit 0 ATTN, bits 1 and 2 the calibration state, bit 3 EXECUTING: they lie apart, so that they add up. -/
theorem statusBits_toNat (attn executing : Bool) (cal : CalState) :
    ((if attn then 1 else 0 : Byte) ||| (cal.number <<< 1) ||| (if executing then 8 else 0)).toNat =
      (if attn then 1 else 0) + 2 * (match cal with | .calibrating => 0 | .ready => 1 | .failed => 2)
        + (if executing then 8 else 0) := by
  cases cal with
  | calibrating | ready | failed => revert attn executing; decide

end Sys2Proof.Machine
end

section
/-! The statements about the host link (Chapter 11): the order of the line, RESPONSE READ and STATUS READ. -/

namespace Sys2Proof.Machine

/-- Settles O14, by what each row does to the line of commands, and the frame's own checksum. -/
theorem orderKept : Obligations.OrderKept := by
  refine ⟨fun c s t ends up => FollowsOrder.exec ends up, fun r short => ?_⟩
  refine ⟨-(byteSum ([r.tag, r.code, r.status.code] ++ natBytes16 r.payload.length ++ r.payload)), ?_, r.bytes_sum⟩
  rw [Response.bytes, natBytes16_eq short]
  rfl

/-- Settles O10: a short read and a whole one, after which nothing may be taken or the purged head command is. -/
theorem responseRead : Obligations.ResponseRead := by
  intro s count
  refine ⟨fun empty => ?_, fun r rest queued => ⟨fun short => ?_, fun whole waits => ?_, ?_⟩⟩
  · exact congrArg Host.Outcome.next (State.readResponse_nil empty count)
  · exact congrArg Host.Outcome.next (State.readResponse_short queued short)
  · refine congrArg Host.Outcome.next ?_
    rw [State.readResponse_whole queued whole, State.settle_waits]
    · rfl
    · exact waits
  · intro whole idle full e more waiting purged
    refine congrArg Host.Outcome.next ?_
    have last : rest.length = 7 := by simpa [queued] using full
    rw [State.readResponse_whole queued whole, State.settle_purged_last (e := e) (more := more)]
    · rfl
    · exact idle
    · exact last
    · exact waiting
    · exact purged

/-- Settles O11: the bits of the status byte lie apart, and a read changes only what LNK_SDO carries. -/
theorem statusReadBytes : Obligations.StatusReadBytes := by
  intro s count
  refine ⟨_, ?_, congrArg Host.Outcome.next (s.shiftOut_readBytes s.statusBytes count)⟩
  rw [statusBits_toNat]
  cases s.link.executing with
  | none | some => rfl

end Sys2Proof.Machine
end
